-- ==== Sys2Proof/Word.lean ====
section
/-! DEFINITION. The word types of the block: every wire field is one byte (R9), the host operand TMO, the
poll counter and STATUS are 16 bits wide (R9), the host request descriptor is 32 bits wide (R53). -/

namespace Sys2Proof

/-- u8: every wire field, HLEN, BLEN, CAP, LAST_CMD (R9, R10). -/
abbrev Byte := BitVec 8

/-- u16 or s16: TMO, ATTEMPT and STATUS (R9). -/
abbrev Half := BitVec 16

/-- The host request descriptor Q (R53). -/
abbrev Descriptor := BitVec 32

end Sys2Proof
end

