-- ==== Sys2Proof/Config.lean ====
section
/-! DEFINITION. What an implementation fixes (the parameters of R8) and the values the spec leaves free
(R12 'draw', R79, 93_implementation_defined.md). The parameters are a record that State carries, so that a
statement about every state is a statement about every parameter value (log entry 2). The free values are
opaque: nothing in Lean can evaluate one. -/

namespace Sys2Proof

/-- The implementation parameters of R8. -/
structure Params where
  /-- P_DEV_ADDR, the 7-bit transport device address of the peer (R8, R35). -/
  devAddr   : BitVec 7
  /-- P_READY_MASK, the bits of the status byte that signal ready; nonzero (R8, R80). -/
  readyMask : Byte
  /-- P_ACK_MAX, the maximum number of ack polls; at least 1 (R8, R85). -/
  ackMax    : Nat
  /-- P_POLL_MS, the delay between polls in milliseconds (R8, R81). -/
  pollMs    : Nat
  /-- P_NACK, the redelivery-request pattern (R8, R66). -/
  nack      : List Byte
deriving DecidableEq, Repr

/-- The default of every parameter (R8's table). -/
def Params.default : Params :=
  { devAddr := 0x24, readyMask := 0x01, ackMax := 10, pollMs := 1, nack := [0x00, 0x00, 0xFF, 0xFF, 0x00] }

/-- The limits R8 sets on the parameters (P_READY_MASK nonzero, P_ACK_MAX at least 1); P_ACK_MAX at most 65535 is
DEDUCED from R25, which says that the 16-bit ATTEMPT reaches its limit and never wraps (log entry 3). -/
def Params.valid (p : Params) : Bool :=
  p.readyMask != 0 && decide (1 ≤ p.ackMax) && decide (p.ackMax ≤ 65535)

/-- One answer of the transport to a BusRead or a BusWrite (R79): `ok`, and for a read the bytes it brought.
A BusWrite's answer has no bytes; the block looks at none. -/
structure Answer where
  ok    : Bool
  bytes : List Byte
deriving DecidableEq, Repr, Inhabited

/-- The transport as a free oracle (R79, U9): the n-th answer that no script fixes. No body: any answer at all. -/
opaque Config.freeAnswer : Nat → Answer

/-- The n-th byte the spec does not fix (R12 'draw'): a byte of OUT after a payload-checksum failure (R74), a byte of
request data the host did not supply, a byte register after reset (R32). No body. -/
opaque Config.freeByte : Nat → Byte

/-- The n-th 16-bit value the spec does not fix (R32: a 16-bit register after a reset event). No body. -/
opaque Config.freeHalf : Nat → Half

/-- What the n-th host read of OUT during a READ_RESPONSE sees at an index (R50). No body. -/
opaque Config.freeOutRead : Nat → Nat → Byte

end Sys2Proof
end

