-- ==== Sys2Proof/Syntax.lean ====
section
/-! DEFINITION. The instructions: one constructor for each row of spec/opcode_table.json, the four host
operations (R53, R54) and the four wire frame patterns (R69). -/

namespace Sys2Proof

/-- The rows of the opcode table. A host operation carries its operands (R53, R56); a wire frame carries the bytes that
its pattern leaves open: LEN and LCS, and `tail`, the frame's bytes from offset 6 on as far as they are on the wire
(data, DCS and POSTAMBLE for a whole frame; nothing in a length probe, which reads frame bytes 0 to 5, R67). -/
inductive Instr where
  /-- BEGIN (R95). -/
  | beginOp
  /-- WAKEUP (R96). -/
  | wakeup
  /-- WRITE_COMMAND with its request data: the header H, then the body B (R56, R99). -/
  | writeCommand (header body : List Byte)
  /-- READ_RESPONSE with CAP and TMO (R100). -/
  | readResponse (cap : Byte) (tmo : Half)
  /-- ACK, the acknowledgement frame (R65, R85). -/
  | ackFrame
  /-- NACK, the redelivery request (R66, R87). -/
  | nackFrame
  /-- DATA_H2D, a data frame whose direction byte is 0xD4 (R63, R72). -/
  | dataH2D (len lcs : Byte) (tail : List Byte)
  /-- DATA_D2H, a data frame whose direction byte is 0xD5 (R64, R74). -/
  | dataD2H (len lcs : Byte) (tail : List Byte)
deriving DecidableEq, Repr

/-- The port an instruction's bytes travel on: the host port (format HREQ) or the transport (formats WIRE48 and
WIRE40) (R3, R69). -/
inductive Port where
  | host
  | wire
deriving DecidableEq, Repr

end Sys2Proof
end

