-- ==== Sys2Proof/WellFormed.lean ====
section
/-! DEFINITION. Which instructions the encodings can hold: HLEN and BLEN are one byte each (R9, R53), and no frame on the
wire is longer than 262 bytes, 6 of head and at most 256 after it (R9, R60). -/

namespace Sys2Proof

/-- HLEN and BLEN are u8 (R53); a frame is at most 262 bytes (R60). Sizes the block refuses with REQUEST_ERROR (R97)
are well-formed: the host can present them. -/
def Instr.wellFormed : Instr → Bool
  | .beginOp => true
  | .wakeup => true
  | .writeCommand header body => decide (header.length ≤ 255) && decide (body.length ≤ 255)
  | .readResponse _ _ => true
  | .ackFrame => true
  | .nackFrame => true
  | .dataH2D _ _ tail => decide (tail.length ≤ 256)
  | .dataD2H _ _ tail => decide (tail.length ≤ 256)

end Sys2Proof
end

