-- ==== Sys2Proof/Decode.lean ====
section
/-! DEFINITION. Decoding and encoding: the host request descriptor with its data (R53 to R56), and the wire frame
patterns (R58, R65, R66, R69). Both decoders are total; what they do not decode they reject by name. -/

namespace Sys2Proof

/-- Why bytes are no instruction. -/
inductive DecodeError where
  /-- Fewer bytes than one 32-bit descriptor. -/
  | shortDescriptor
  /-- A reserved descriptor (R55), with its operation code, which acceptance latches (R94). -/
  | reserved (op : Byte)
  /-- A WRITE_COMMAND descriptor followed by fewer than HLEN + BLEN data bytes (R56). -/
  | shortData (need have_ : Nat)
  /-- Bytes on the wire that match no wire row of the table (R69). -/
  | notAFrame
deriving DecidableEq, Repr

/-- What a decoder answers. -/
inductive Decoded where
  | ok (i : Instr) (rest : List Byte)
  | error (e : DecodeError)
deriving DecidableEq, Repr

/-! ### Wire constants (R58) -/

/-- TFI_H2D (R58). -/
def tfiH2D : Byte := 0xD4

/-- TFI_D2H (R58). -/
def tfiD2H : Byte := 0xD5

/-- PREAMBLE, STARTCODE1, STARTCODE2 (R58). -/
def headBytes : List Byte := [0x00, 0x00, 0xFF]

/-- The ack frame (R58, R65). -/
def ackBytes : List Byte := [0x00, 0x00, 0xFF, 0x00, 0xFF, 0x00]

/-- The redelivery request's §6 literal, default of P_NACK (R58, R66). -/
def nackBytes : List Byte := [0x00, 0x00, 0xFF, 0xFF, 0x00]

/-! ### Host requests (R53 to R56) -/

/-- The descriptor as bytes on a serialising host port: little-endian (R39). -/
def descriptorBytes (q : Descriptor) : List Byte :=
  [q.extractLsb' 0 8, q.extractLsb' 8 8, q.extractLsb' 16 8, q.extractLsb' 24 8]

/-- A host request: the descriptor's four bytes `op a b0 b1` (OP = Q[7:0], A = Q[15:8], B = Q[31:16]), then for
WRITE_COMMAND HLEN + BLEN data bytes, header first (R53, R54, R56). Every other descriptor is reserved (R55). -/
def decodeHost : List Byte → Decoded
  | op :: a :: b0 :: b1 :: rest =>
    if op = 0x00 then
      if a = 0 ∧ b0 = 0 ∧ b1 = 0 then .ok .beginOp rest else .error (.reserved op)
    else if op = 0x01 then
      if a = 0 ∧ b0 = 0 ∧ b1 = 0 then .ok .wakeup rest else .error (.reserved op)
    else if op = 0x02 then
      if b1 ≠ 0 then .error (.reserved op)
      else if rest.length < a.toNat + b0.toNat then .error (.shortData (a.toNat + b0.toNat) rest.length)
      else .ok (.writeCommand (rest.take a.toNat) ((rest.drop a.toNat).take b0.toNat))
        (rest.drop (a.toNat + b0.toNat))
    else if op = 0x03 then .ok (.readResponse a (b1 ++ b0)) rest
    else .error (.reserved op)
  | _ => .error .shortDescriptor

/-! ### Wire frames (R59, R65, R66, R69) -/

/-- Which wire row a byte sequence on the transport is. The ack frame and the redelivery request are fixed patterns; a
data frame is told by its head `00 00 FF` and its direction byte, with LEN and LCS open as the table's masks say: whether
LEN and LCS agree is checked by the machine, not here (R73, R74). -/
def decodeWire (f : List Byte) : Decoded :=
  if f = ackBytes then .ok .ackFrame []
  else if f = nackBytes then .ok .nackFrame []
  else
    match f with
    | p :: s1 :: s2 :: len :: lcs :: tfi :: tail =>
      if p = 0x00 ∧ s1 = 0x00 ∧ s2 = 0xFF then
        if tfi = tfiH2D then .ok (.dataH2D len lcs tail) []
        else if tfi = tfiD2H then .ok (.dataD2H len lcs tail) []
        else .error .notAFrame
      else .error .notAFrame
    | _ => .error .notAFrame

/-- Decoding on a port. -/
def decode : Port → List Byte → Decoded
  | .host, bytes => decodeHost bytes
  | .wire, bytes => decodeWire bytes

/-! ### Encoding -/

/-- The port an instruction travels on (R69). -/
def Instr.port : Instr → Port
  | .beginOp => .host
  | .wakeup => .host
  | .writeCommand _ _ => .host
  | .readResponse _ _ => .host
  | .ackFrame => .wire
  | .nackFrame => .wire
  | .dataH2D _ _ _ => .wire
  | .dataD2H _ _ _ => .wire

/-- The bytes of an instruction, first byte first (R38, R39, R53, R56, R59, R65, R66). -/
def encode : Instr → List Byte
  | .beginOp => [0x00, 0x00, 0x00, 0x00]
  | .wakeup => [0x01, 0x00, 0x00, 0x00]
  | .writeCommand header body =>
    [0x02, BitVec.ofNat 8 header.length, BitVec.ofNat 8 body.length, 0x00] ++ header ++ body
  | .readResponse cap tmo => [0x03, cap, tmo.extractLsb' 0 8, tmo.extractLsb' 8 8]
  | .ackFrame => ackBytes
  | .nackFrame => nackBytes
  | .dataH2D len lcs tail => headBytes ++ [len, lcs, tfiH2D] ++ tail
  | .dataD2H len lcs tail => headBytes ++ [len, lcs, tfiD2H] ++ tail

/-- The instruction's decoded form alone. -/
def Decoded.instr? : Decoded → Option Instr
  | .ok i _ => some i
  | .error _ => none

/-- Byte `k` of the number `w`, counting from its least significant byte. -/
def byteOf (w k : Nat) : Byte := BitVec.ofNat 8 (w >>> (8 * k))

/-- The bytes of one row of the opcode table as the table numbers its bits. A host row is the descriptor word Q,
followed by request data of zeros. A wire row has frame byte 0 in the most significant byte (R69), and a data frame's
LEN + 1 further bytes (data, DCS, POSTAMBLE) are zeros. -/
def tableBytes (nbits w : Nat) : List Byte :=
  if nbits = 32 then
    [byteOf w 0, byteOf w 1, byteOf w 2, byteOf w 3] ++
      List.replicate ((byteOf w 1).toNat + (byteOf w 2).toNat) 0x00
  else if nbits = 40 then [byteOf w 4, byteOf w 3, byteOf w 2, byteOf w 1, byteOf w 0]
  else if nbits = 48 then
    [byteOf w 5, byteOf w 4, byteOf w 3, byteOf w 2, byteOf w 1, byteOf w 0] ++
      (if [byteOf w 5, byteOf w 4, byteOf w 3, byteOf w 2, byteOf w 1, byteOf w 0] = ackBytes then []
       else List.replicate ((byteOf w 2).toNat + 1) 0x00)
  else []

/-- The instruction the decoder reads from a row's word: rows of 32 bits come on the host port, rows of 40 and 48 bits
on the transport (R69). -/
def decodeTableWord (nbits w : Nat) : Option Instr :=
  if nbits = 32 then (decode .host (tableBytes nbits w)).instr?
  else (decode .wire (tableBytes nbits w)).instr?

end Sys2Proof
end

