-- ==== Sys2Proof/Machine/State.lean ====
section
/-! DEFINITION. The state of the block (10_state.md), the inputs its environment has ready for it and the record of what it
put out (R3's three ports), as plain data; the error kinds (R104), the faults (R110) and the state after reset (R32). -/

namespace Sys2Proof.Machine

open Sys2Proof

/-- ST, the control state (R19). The ten named values are R19's; `unused k` is the code 0xA + k of R21, so that the
sixteen constructors are exactly the sixteen values of a 4-bit register (`St.code`, `St.ofCode`). -/
inductive St where
  | idle
  | wcSend
  | wcAckPoll
  | wcAckDelay
  | rrLenPoll
  | rrLenDelay
  | rrNack
  | rrDataPoll
  | rrDataDelay
  | respond
  | unused (k : Fin 6)
deriving DecidableEq, Repr

/-- The error kinds of R104. -/
inductive ErrorKind where
  | invalidAck
  | timeout
  | invalidFrame
  | noSpace
  | requestError
deriving DecidableEq, Repr

/-- One transaction the block issued on the transport port (R79). -/
inductive Txn where
  /-- BusRead of `n` bytes from device `addr`. -/
  | busRead (addr : BitVec 7) (n : Nat)
  /-- BusWrite of `bytes` to device `addr`. -/
  | busWrite (addr : BitVec 7) (bytes : List Byte)
  /-- Delay of `ms` milliseconds. -/
  | delay (ms : Nat)
deriving DecidableEq, Repr

/-- One request as the host presents it: the descriptor word Q and the request data behind it (R53, R56). -/
structure Request where
  desc : Descriptor
  data : List Byte
deriving DecidableEq, Repr

/-- Who moves next (R131's agents). -/
inductive Move where
  /-- The block moves: the transport answers its outstanding request, or the host presents or takes (R20). -/
  | block
  /-- Nothing happens in this step: no answer has come yet, the host has not yet presented or taken (R131's liberties). -/
  | wait
  /-- Nobody moves from here on: the transport never answers the outstanding request, or the host never presents or takes.
  It is not used up: the block is stuck in the state it is in (R79, R131, U10). -/
  | never
  /-- The platform asserts reset (R118). -/
  | reset
  /-- The host writes byte `v` at index `i` of OUT (R50). -/
  | hostWritesOut (i : Fin 255) (v : Byte)
deriving DecidableEq, Repr

/-- Why a run has no meaning from some point on (R110's model faults, both of them). -/
inductive Fault where
  /-- F_NO_COMMAND: raised by READ_RESPONSE accepted with LAST_CMD_VALID = 0 (R101, R110). Safe: it denies meaning to a run
  whose outcome would depend on an unspecified LAST_CMD. -/
  | noCommand
  /-- F_BAD_STATE: raised by any instruction and any step while ST holds 0xA to 0xF, whoever would move (R21, R110, U15). Safe:
  no rule gives the block a behaviour there, and no run from reset reaches it. -/
  | badState
deriving DecidableEq, Repr

/-- Why an instruction has no meaning in this model. -/
inductive Refusal where
  /-- Raised only by an arm of exec whose instruction has no meaning yet. Safe: the step gives no next state. -/
  | notModelled (mnemonic : String)
deriving DecidableEq, Repr

/-- Everything the spec gives the block, its OUT buffer, its environment's inputs and the record of its outputs. -/
structure State where
  /-- ST, 4 bits (R19). -/
  st : St
  /-- OP latch, 8 bits (R24). -/
  op : Byte
  /-- HLEN latch, 8 bits (R24). -/
  hlen : Byte
  /-- BLEN latch, 8 bits (R24). -/
  blen : Byte
  /-- CAP latch, 8 bits (R24). -/
  cap : Byte
  /-- TMO latch, 16 bits (R24). -/
  tmo : Half
  /-- ATTEMPT, the 16-bit poll counter (R25). -/
  attempt : Half
  /-- LEN_D, the declared LENGTH byte (R26). -/
  lenD : Byte
  /-- STATUS, signed 16 bits (R27). -/
  status : Half
  /-- LAST_CMD, 8 bits (R22). -/
  lastCmd : Byte
  /-- LAST_CMD_VALID, a 1-bit flag of the model only (R23). -/
  lastCmdValid : Bool
  /-- TXBUF, 262 bytes (R28). -/
  txBuf : List Byte
  /-- TXLEN, 9 bits, 0..262 (R28). -/
  txLen : BitVec 9
  /-- RXBUF, 263 bytes (R29). -/
  rxBuf : List Byte
  /-- OUT, the host-owned output buffer, as cells (index, byte); an index not listed holds nothing the model defines
  (R37, R50). -/
  out : List Host.Cell
  /-- Model only: the host wrote OUT while a READ_RESPONSE was running, so what that operation stores is unspecified too
  (R50). -/
  outRaced : Bool
  /-- The implementation parameters (R8); no step changes them. -/
  params : Params
  /-- Input: the host's requests that the block has not accepted, first one first (R94, R130). -/
  requests : List Request
  /-- Input: the transport's next answers to BusRead and BusWrite, first one first; once they are used up the answers are
  the free oracle's (R79). -/
  answers : List Answer
  /-- Input: who moves in the next steps; once it is used up the block moves in each step, and from a `never` on nothing
  moves (R20, R118, R131). -/
  schedule : List Move
  /-- Output: the transport transactions completed so far, LATEST FIRST (R41, R46). -/
  traffic : List Txn
  /-- Output: the STATUS values the host has taken so far, LATEST FIRST (R57). -/
  responses : List Half
  /-- Model only: how many free values have been drawn (R12 'draw'). -/
  draws : Nat
deriving DecidableEq, Repr

/-- The state after power-up (R32, R118): ST = IDLE, LAST_CMD_VALID = 0. LAST_CMD is a draw, as R32 says (draw 0). The other
registers, for which R32 gives no value, are zero (DESIGN CHOICE, log entry 5). OUT lists nothing, the parameters are R8's
defaults, no request is presented, no answer is scripted and nothing has been put out. -/
def State.reset : State where
  st := .idle
  op := 0
  hlen := 0
  blen := 0
  cap := 0
  tmo := 0
  attempt := 0
  lenD := 0
  status := 0
  lastCmd := Config.freeByte 0
  lastCmdValid := false
  txBuf := List.replicate 262 0
  txLen := 0
  rxBuf := List.replicate 263 0
  out := []
  outRaced := false
  params := Params.default
  requests := []
  answers := []
  schedule := []
  traffic := []
  responses := []
  draws := 1

end Sys2Proof.Machine
end

