-- ==== Sys2Proof/Machine/Flags.lean ====
section
/-! DEFINITION. The block has no condition codes (R30). What it computes and tests on bytes stands here: the modular sums of
the two checksums (R11, R61, R62, R71), the ready test on the status byte (R80) and the test of a poll limit (R81). -/

namespace Sys2Proof.Machine

open Sys2Proof

/-- The exact sum of a byte list, as an unbounded number. -/
def byteTotal : List Byte → Nat
  | [] => 0
  | b :: bs => b.toNat + byteTotal bs

/-- `sum8(L)`: the sum of the bytes of L modulo 256 (R11, R71). -/
def sum8 (bytes : List Byte) : Byte := BitVec.ofNat 8 (byteTotal bytes % 256)

/-- `neg8(x) = (256 - x) mod 256` (R11, R71). -/
def neg8 (x : Byte) : Byte := BitVec.ofNat 8 ((256 - x.toNat) % 256)

/-- The response command code a response must carry: `(LAST_CMD + 1) mod 256` (R71, R74). -/
def expectedCode (lastCmd : Byte) : Byte := BitVec.ofNat 8 ((lastCmd.toNat + 1) % 256)

/-- The ready bits of a status byte are set: `(R[0] & P_READY_MASK) ≠ 0` (R80). -/
def statusReady (mask status : Byte) : Bool := (status &&& mask) != 0

/-- A poll of `n` bytes is ready: the read did not fail, was not short, and its status byte signals ready (R79, R80). -/
def ready (mask : Byte) (n : Nat) (a : Answer) : Bool :=
  a.ok && decide (n ≤ a.bytes.length) && statusReady mask (a.bytes.headD 0)

/-- The poll counter after one more failed poll (R25, R81). -/
def countPoll (attempt : Half) : Half := BitVec.ofNat 16 (attempt.toNat + 1)

/-- A 16-bit STATUS is an error exactly when it is negative as a two's-complement number (R57). -/
def isError (status : Half) : Bool := status.msb

end Sys2Proof.Machine
end

