-- ==== Sys2Proof/Machine/Operands.lean ====
section
/-! DEFINITION. Operand forms: the bytes of a host request with its data (R36, R39, R56), the layout of a read answer (R67), the
size of each read (R82), the limit of each poll phase (R81, R85, R86, R88) and the frame held in TXBUF (R28). -/

namespace Sys2Proof.Machine

open Sys2Proof

/-- How many request-data bytes a descriptor announces: HLEN + BLEN for WRITE_COMMAND, none otherwise (R56). -/
def dataLength (q : Descriptor) : Nat :=
  if q.extractLsb' 0 8 = 0x02 then (q.extractLsb' 8 8).toNat + (q.extractLsb' 16 8).toNat else 0

/-- How many of the announced bytes the host did not supply (R56 asks for exactly HLEN + BLEN). -/
def missingData (r : Request) : Nat := dataLength r.desc - r.data.length

/-- `n` free bytes, the draws from `d` on. -/
def freeBytes (d n : Nat) : List Byte := (List.range n).map fun i => Config.freeByte (d + i)

/-- The request as the block latches it: the descriptor's bytes, then its data; a byte the host did not supply is a
free byte (log entry 8). -/
def requestBytes (d : Nat) (r : Request) : List Byte :=
  descriptorBytes r.desc ++ r.data ++ freeBytes d (missingData r)

/-- Byte `k` of a read answer or of a frame. -/
def byteAt (bytes : List Byte) (k : Nat) : Byte := bytes.getD k 0

/-- The number of bytes of the read that a poll state issues: 7, or LEN_D + 8 (R67, R82). A state that issues no read
reads nothing. -/
def readSize (s : State) : Nat :=
  match s.st with
  | .wcAckPoll => 7
  | .rrLenPoll => 7
  | .rrDataPoll => s.lenD.toNat + 8
  | _ => 0

/-- The poll limit of the phase the block is in: P_ACK_MAX for the ack wait, TMO for the response waits, 0 for no limit
(R81, R85, R86, R88). -/
def pollLimit (s : State) : Nat :=
  match s.st with
  | .wcAckPoll => s.params.ackMax
  | .wcAckDelay => s.params.ackMax
  | _ => s.tmo.toNat

/-- The poll state whose delay state is given (R89). -/
def pollOf : St → St
  | .wcAckDelay => .wcAckPoll
  | .rrLenDelay => .rrLenPoll
  | .rrDataDelay => .rrDataPoll
  | st => st

/-- The delay state of a poll state (R89). -/
def delayOf : St → St
  | .wcAckPoll => .wcAckDelay
  | .rrLenPoll => .rrLenDelay
  | .rrDataPoll => .rrDataDelay
  | st => st

/-- `TXBUF[0 .. TXLEN-1]`, the frame WC_SEND sends (R28, R84). -/
def txFrame (s : State) : List Byte := s.txBuf.take s.txLen.toNat

end Sys2Proof.Machine
end

