-- ==== Sys2Proof/Machine/Codec.lean ====
section
/-! DEFINITION. The Frame Codec (40_frame_codec.md): pure functions on byte lists. -/

namespace Sys2Proof.Machine

open Sys2Proof

/-- `FrameBuild(T, X)`: the data frame with direction byte T and data X (R59, R72). -/
def frameBuild (t : Byte) (x : List Byte) : List Byte :=
  let len : Byte := BitVec.ofNat 8 (x.length + 1)
  headBytes ++ [len, neg8 len, t] ++ x ++ [neg8 (sum8 (t :: x)), 0x00]

/-- `Encode(H, B)`: the host-to-device data frame (R63, R72). -/
def encodeFrame (header body : List Byte) : List Byte := frameBuild tfiH2D (header ++ body)

/-- The frame head `00 00 FF` in a read answer, behind the status byte (R67, R73, R74). -/
def headOk (r : List Byte) : Bool :=
  byteAt r 1 == 0x00 && byteAt r 2 == 0x00 && byteAt r 3 == 0xFF

/-- `DecodeLength(R)`: the declared LENGTH of a ready length poll (R73). -/
def decodeLength (r : List Byte) : Except ErrorKind Byte :=
  if headOk r then .ok (byteAt r 4) else .error .invalidFrame

/-- What DecodeFull finds. -/
inductive FullDecode where
  /-- All checks pass: the payload goes to OUT and its length is the result. -/
  | payload (p : List Byte)
  /-- Check (7) fails: `n` bytes of OUT are unspecified, the result is INVALID_FRAME. -/
  | badPayload (n : Nat)
  /-- One of checks (1) to (6) fails: OUT is untouched. -/
  | error (e : ErrorKind)
deriving DecidableEq, Repr

/-- `DecodeFull(R, LD, EC, CAP)`, checks (1) to (7) in the order of R74. -/
def decodeFull (r : List Byte) (ld ec cap : Byte) : FullDecode :=
  if !headOk r then .error .invalidFrame                                        -- (1) head
  else
    let l := byteAt r 4
    if (l.toNat + (byteAt r 5).toNat) % 256 ≠ 0 then .error .invalidFrame       -- (2) length checksum
    else if l ≠ ld then .error .invalidFrame                                    -- (3) same length as probed
    else if l.toNat < 2 then .error .invalidFrame                               -- (4) room for TFI and code
    else if byteAt r 6 ≠ tfiD2H ∨ byteAt r 7 ≠ ec then .error .invalidFrame     -- (5) direction, command code
    else
      let plen := l.toNat - 2
      if plen > cap.toNat then .error .noSpace                                  -- (6) capacity
      else
        let p := (r.drop 8).take plen
        let s := sum8 (byteAt r 6 :: byteAt r 7 :: p)
        if (s.toNat + (byteAt r (8 + plen)).toNat) % 256 ≠ 0 then .badPayload plen   -- (7) payload checksum
        else .payload p

/-- `FrameParse(F)`: the spec's own helper for the round-trip property; no hardware path calls it (R75). -/
def frameParse (f : List Byte) : Except ErrorKind (Byte × List Byte) :=
  if f.length < 8 then .error .invalidFrame
  else if byteAt f 0 ≠ 0x00 ∨ byteAt f 1 ≠ 0x00 ∨ byteAt f 2 ≠ 0xFF then .error .invalidFrame
  else
    let l := (byteAt f 3).toNat
    if l = 0 ∨ (l + (byteAt f 4).toNat) % 256 ≠ 0 ∨ f.length ≠ l + 7 then .error .invalidFrame
    else if sum8 ((f.drop 5).take (l + 1)) ≠ 0 then .error .invalidFrame
    else .ok (byteAt f 5, (f.drop 6).take (l - 1))

end Sys2Proof.Machine
end

