-- ==== Sys2Proof/Machine/Ops.lean ====
section
/-! DEFINITION. The named operations over the state: the codes of ST and of the error kinds, error entry and its return (R108,
R109), OUT (R37, R50), the transport port (R79), the frame buffers (R28, R29), acceptance of a request (R94) and the
reset event (R118). -/

namespace Sys2Proof.Machine

open Sys2Proof

/-! ### Codes -/

/-- The 4-bit code of a control state (R19, R21). -/
def St.code : St → BitVec 4
  | .idle => 0x0
  | .wcSend => 0x1
  | .wcAckPoll => 0x2
  | .wcAckDelay => 0x3
  | .rrLenPoll => 0x4
  | .rrLenDelay => 0x5
  | .rrNack => 0x6
  | .rrDataPoll => 0x7
  | .rrDataDelay => 0x8
  | .respond => 0x9
  | .unused k => BitVec.ofNat 4 (10 + k.val)

/-- The control state of a 4-bit code (R19, R21). -/
def St.ofCode (c : BitVec 4) : St :=
  if c = 0x0 then .idle
  else if c = 0x1 then .wcSend
  else if c = 0x2 then .wcAckPoll
  else if c = 0x3 then .wcAckDelay
  else if c = 0x4 then .rrLenPoll
  else if c = 0x5 then .rrLenDelay
  else if c = 0x6 then .rrNack
  else if c = 0x7 then .rrDataPoll
  else if c = 0x8 then .rrDataDelay
  else if c = 0x9 then .respond
  else .unused (Fin.ofNat 6 (c.toNat - 10))

/-- The STATUS code of an error kind, a negative 16-bit number (R104). -/
def ErrorKind.code : ErrorKind → Half
  | .invalidAck => BitVec.ofInt 16 (-1)
  | .timeout => BitVec.ofInt 16 (-2)
  | .invalidFrame => BitVec.ofInt 16 (-3)
  | .noSpace => BitVec.ofInt 16 (-4)
  | .requestError => BitVec.ofInt 16 (-5)

/-! ### Ending an operation (R12 finish, R108 raise, R109) -/

/-- `RESP(v)`: STATUS takes v and the block enters RESPOND (R89). -/
def respond (s : State) (v : Half) : State := { s with status := v, st := .respond }

/-- Error entry, `raise E`: STATUS takes the code of E, the block enters RESPOND, nothing else changes (R108). -/
def raise (s : State) (e : ErrorKind) : State := respond s e.code

/-- `finish(n)`: the operation ends with the result n ≥ 0 (R12). -/
def finish (s : State) (n : Nat) : State := respond s (BitVec.ofNat 16 n)

/-- Return from an operation, erroneous or not: the host takes STATUS and the block is IDLE (R89, R109). -/
def takeResponse (s : State) : State := { s with st := .idle, responses := s.status :: s.responses }

/-! ### OUT (R37, R50, R74) -/

/-- The byte the model defines at an index of OUT, none where it defines none. -/
def outRead (m : List Host.Cell) (i : Nat) : Option Byte :=
  match m with
  | [] => none
  | (j, b) :: rest => if i = j then some b else outRead rest i

/-- `MemWrite(OUT + i, 1, v)` (R12, R37), keeping the cells in rising order of index. -/
def outWrite (m : List Host.Cell) (i : Nat) (v : Byte) : List Host.Cell :=
  match m with
  | [] => [(i, v)]
  | (j, b) :: rest =>
    if i < j then (i, v) :: (j, b) :: rest
    else if i = j then (i, v) :: rest
    else (j, b) :: outWrite rest i v

/-- `MemWrite(OUT + i + k, 1, bytes[k])` for each k, in rising order (R38, R74). -/
def outFill (m : List Host.Cell) (i : Nat) : List Byte → List Host.Cell
  | [] => m
  | b :: bs => outFill (outWrite m i b) (i + 1) bs

/-- Every cell's index is at least `lo` and below the next cell's. -/
def risingFrom (lo : Nat) : List Host.Cell → Bool
  | [] => true
  | (j, _) :: rest => decide (lo ≤ j) && risingFrom (j + 1) rest

/-- OUT's canonical form: indices strictly rising, each below 255, since CAP is at most 255 (R9, R34, R37). An unlisted index
reads as no value, so no entry can equal what an unlisted index reads as. -/
def Memory.wf (m : List Host.Cell) : Bool :=
  risingFrom 0 m && m.all fun c => decide (c.1 < 255)

/-- `n` free bytes go to OUT[0..n-1], one draw per byte (R74 after check (7)). -/
def outUnspecified (s : State) (n : Nat) : State :=
  { s with out := outFill s.out 0 (freeBytes s.draws n), draws := s.draws + n }

/-- The payload goes to OUT[0..]; where the host wrote OUT meanwhile, OUT is unspecified instead (R37, R50, R74). -/
def outStore (s : State) (p : List Byte) : State :=
  if s.outRaced then outUnspecified s p.length else { s with out := outFill s.out 0 p }

/-- A READ_RESPONSE is running, until its response is taken (R50). -/
def readRunning (s : State) : Bool :=
  match s.st with
  | .rrLenPoll => true
  | .rrLenDelay => true
  | .rrNack => true
  | .rrDataPoll => true
  | .rrDataDelay => true
  | .respond => s.op == 0x03
  | _ => false

/-- All of OUT becomes unspecified: each of its 255 indices holds a free byte, one draw a byte (U5, U6). -/
def loseOut (s : State) : State := outUnspecified s 255

/-- The host writes OUT[i]: an ordinary write, but while a READ_RESPONSE runs it leaves all of OUT unspecified (R50, U5).
DESIGN CHOICE (log entry 10): an index at or above the running READ_RESPONSE's CAP counts as a write of OUT too, where no
rule says whether it does. -/
def hostWriteOut (s : State) (i : Nat) (v : Byte) : State :=
  if readRunning s then { loseOut s with outRaced := true }
  else { s with out := outWrite s.out i v }

/-- What a host reading OUT[i], in its n-th read, sees: any value at all while a READ_RESPONSE runs (R50), else what OUT holds.
The read changes nothing in the block. -/
def hostReadOut (s : State) (n i : Nat) : Option Byte :=
  if readRunning s then some (Config.freeOutRead n i) else outRead s.out i

/-! ### The transport port (R79) -/

/-- The answer to the outstanding BusRead or BusWrite: the script's next one, else the free oracle's (R79). -/
def nextAnswer (s : State) : Answer :=
  match s.answers with
  | a :: _ => a
  | [] => Config.freeAnswer s.draws

/-- That answer is used up. -/
def dropAnswer (s : State) : State :=
  match s.answers with
  | _ :: rest => { s with answers := rest }
  | [] => { s with draws := s.draws + 1 }

/-- How many free answers that takes: one when the script is used up, none before. -/
def freeAnswersDrawn : List Answer → Nat
  | _ :: _ => 0
  | [] => 1

/-- One transaction is issued and completed (R41, R45). -/
def issue (s : State) (t : Txn) : State := { s with traffic := t :: s.traffic }

/-- `ok <- BusWrite(P_DEV_ADDR, bytes)`; `ok` is examined by no rule (R79, R84, R87). -/
def busWrite (s : State) (bytes : List Byte) : State :=
  dropAnswer (issue s (.busWrite s.params.devAddr bytes))

/-- The state after `BusRead(P_DEV_ADDR, n)`, whose answer is `nextAnswer s` (R79). -/
def busRead (s : State) (n : Nat) : State :=
  dropAnswer (issue s (.busRead s.params.devAddr n))

/-- `Delay(P_POLL_MS)` (R79, R81). -/
def delay (s : State) : State := issue s (.delay s.params.pollMs)

/-! ### Frame buffers (R28, R29) -/

/-- `BUF[0 .. |bytes|-1] <- bytes`. -/
def overlay (bytes buf : List Byte) : List Byte := bytes ++ buf.drop bytes.length

/-- `TXBUF[0 .. |f|-1] <- f; TXLEN <- |f|` (R28, R99). -/
def latchTx (s : State) (f : List Byte) : State :=
  { s with txBuf := overlay f s.txBuf, txLen := BitVec.ofNat 9 f.length }

/-- `RXBUF[0 .. |r|-1] <- r` (R29, R81). -/
def latchRx (s : State) (r : List Byte) : State := { s with rxBuf := overlay r s.rxBuf }

/-! ### Acceptance (R94) -/

/-- `accept(Q)`: only an IDLE block accepts, latching OP; in any other named state the request waits and nothing
changes (R94); in an unused state nothing has a meaning (R21). -/
def accept (s : State) (op : Byte) (k : State → Host.Outcome State Fault Refusal) :
    Host.Outcome State Fault Refusal :=
  match s.st with
  | .idle => k { s with op := op }
  | .unused _ => .fault .badState
  | _ => .next s

/-- A reserved descriptor is accepted and ends at once with REQUEST_ERROR (R55, R94). -/
def refuseReserved (s : State) (op : Byte) : State := raise { s with op := op } .requestError

/-! ### Reset (R118) -/

/-- The transport owes an answer in this state: its request is outstanding (R20, R45). -/
def awaitsAnswer : St → Bool
  | .wcSend => true
  | .wcAckPoll => true
  | .rrLenPoll => true
  | .rrNack => true
  | .rrDataPoll => true
  | _ => false

/-- What the reset event makes of the registers: ST = IDLE, LAST_CMD_VALID = 0, every other register unspecified (a free
value; TXLEN within 0..262), the answer to an outstanding transport request ignored, no STATUS delivered (R32, R118). -/
def resetRegisters (s : State) : State :=
  { s with
      st := .idle, op := Config.freeByte s.draws, hlen := Config.freeByte (s.draws + 1),
      blen := Config.freeByte (s.draws + 2), cap := Config.freeByte (s.draws + 3), tmo := Config.freeHalf s.draws,
      attempt := Config.freeHalf (s.draws + 1), lenD := Config.freeByte (s.draws + 4),
      status := Config.freeHalf (s.draws + 2), lastCmd := Config.freeByte (s.draws + 5), lastCmdValid := false,
      txBuf := freeBytes (s.draws + 6) 262,
      txLen := BitVec.ofNat 9 ((Config.freeHalf (s.draws + 3)).toNat % 263),
      rxBuf := freeBytes (s.draws + 268) 263,
      answers := if awaitsAnswer s.st then s.answers.tail else s.answers,
      draws := s.draws + 531 }

/-- The reset event: the registers as above; OUT is unspecified when a READ_RESPONSE was in flight, and otherwise stays
(R118, U6). -/
def takeReset (s : State) : State :=
  resetRegisters (if readRunning s then loseOut s else s)

end Sys2Proof.Machine
end

