-- ==== Sys2Proof/Machine/Handshake.lean ====
section
/-! DEFINITION. The Handshake Driver (41_handshake_driver.md), one operation per row group of the step table R89. -/

namespace Sys2Proof.Machine

open Sys2Proof

/-- SEND: one BusWrite of the command frame; its answer is not examined; the ack wait starts (R84, R89). -/
def sendFrame (s : State) (f : List Byte) : State :=
  { busWrite s f with attempt := 0, st := .wcAckPoll }

/-- REDELIVER: one BusWrite of P_NACK; its answer is not examined; the data wait starts (R87, R89). -/
def redeliver (s : State) : State :=
  { busWrite s s.params.nack with attempt := 0, st := .rrDataPoll }

/-- A poll that is not ready: its bytes are discarded whole and the phase's delay follows (R83, R89). -/
def notReady (s : State) : State := { s with st := delayOf s.st }

/-- WAIT_ACK's check of a ready answer: exact comparison of the six frame bytes (R85). -/
def checkAck (s : State) (r : List Byte) : State :=
  if (r.drop 1).take 6 = ackBytes then finish s 0 else raise s .invalidAck

/-- WAIT_LENGTH's use of a ready answer: Decode-length, then the redelivery request comes next (R86). -/
def checkLength (s : State) (r : List Byte) : State :=
  match decodeLength r with
  | .ok len => { s with lenD := len, st := .rrNack }
  | .error e => raise s e

/-- What DecodeFull's outcome does to OUT and STATUS (R74, R88). -/
def settleDecode (s : State) : FullDecode → State
  | .payload p => finish (outStore s p) p.length
  | .badPayload n => raise (outUnspecified s n) .invalidFrame
  | .error e => raise s e

/-- WAIT_DATA's use of a ready answer: Decode-full against LEN_D, LAST_CMD and CAP (R88). -/
def checkData (s : State) (r : List Byte) : State :=
  settleDecode s (decodeFull r s.lenD (expectedCode s.lastCmd) s.cap)

/-- What a poll state does with the whole read answer of a ready poll (R85, R86, R88, R89). -/
def checkAnswer (s : State) (r : List Byte) : State :=
  match s.st with
  | .wcAckPoll => checkAck s r
  | .rrLenPoll => checkLength s r
  | .rrDataPoll => checkData s r
  | _ => s

/-- A ready poll receives the frame bytes `f` behind the status byte, which the fetch has put in RXBUF[0]: the answer's
bytes go to RXBUF and are checked (R81, R89). Fewer bytes than the poll reads are a short read, which is not ready (R79).
A state that issues no read takes nothing: the frame stays with the peer (R20). -/
def receiveFrame (s : State) (f : List Byte) : State :=
  if readSize s = 0 then s
  else if f.length + 1 < readSize s then notReady s
  else
    let r := byteAt s.rxBuf 0 :: f.take (readSize s - 1)
    checkAnswer (latchRx s r) r

/-- What follows a failed poll's delay: with a limit, ATTEMPT counts the poll and the limit's last poll raises TIMEOUT;
otherwise the block polls again (R81, R89). -/
def delayStep (s : State) : State :=
  let s1 := delay s
  if pollLimit s = 0 then { s1 with st := pollOf s.st }
  else
    let s2 := { s1 with attempt := countPoll s.attempt }
    if s.attempt.toNat + 1 = pollLimit s then raise s2 .timeout else { s2 with st := pollOf s.st }

/-- An instruction on the wire: it has a meaning in every state but an unused one (R21). -/
def onWire (s : State) (k : State → State) : Host.Outcome State Fault Refusal :=
  match s.st with
  | .unused _ => .fault .badState
  | _ => .next (k s)

end Sys2Proof.Machine
end

