-- ==== Sys2Proof/Machine/HostOps.lean ====
section
/-! DEFINITION. The host operations of the Transport Façade (42_transport_facade.md): what acceptance of each does. The
transport steps that follow WRITE_COMMAND and READ_RESPONSE are the states WC_SEND and RR_LEN_POLL onward (R89). -/

namespace Sys2Proof.Machine

open Sys2Proof

/-- BEGIN: `finish(0)` (R95). -/
def execBegin (s : State) : Host.Outcome State Fault Refusal :=
  accept s 0x00 fun s => .next (finish s 0)

/-- WAKEUP: `finish(0)` (R96). -/
def execWakeup (s : State) : Host.Outcome State Fault Refusal :=
  accept s 0x01 fun s => .next (finish s 0)

/-- WRITE_COMMAND: HLEN and BLEN are latched; HLEN = 0 or HLEN + BLEN > 254 is REQUEST_ERROR (R97); otherwise LAST_CMD takes
H[0], the frame goes to TXBUF and WC_SEND follows (R98, R99). -/
def execWriteCommand (header body : List Byte) (s : State) : Host.Outcome State Fault Refusal :=
  accept s 0x02 fun s =>
    let s1 := { s with hlen := BitVec.ofNat 8 header.length, blen := BitVec.ofNat 8 body.length }
    if header.length = 0 ∨ header.length + body.length > 254 then .next (raise s1 .requestError)
    else
      let s2 := { s1 with lastCmd := byteAt header 0, lastCmdValid := true }
      .next { latchTx s2 (encodeFrame header body) with st := .wcSend }

/-- READ_RESPONSE: CAP and TMO are latched; without a command since reset it is the model fault F_NO_COMMAND (R101); otherwise
the length wait starts with ATTEMPT = 0 (R81, R86, R100). -/
def execReadResponse (cap : Byte) (tmo : Half) (s : State) : Host.Outcome State Fault Refusal :=
  accept s 0x03 fun s =>
    let s1 := { s with cap := cap, tmo := tmo }
    if s.lastCmdValid then .next { s1 with attempt := 0, outRaced := false, st := .rrLenPoll }
    else .fault .noCommand

end Sys2Proof.Machine
end

