-- ==== Sys2Proof/Machine/WireFrames.lean ====
section
/-! DEFINITION. The wire frames: what the block does with each in the state it is in. Of the frames it sends, DATA_H2D belongs
to WC_SEND (R84) and NACK to RR_NACK (R87); whatever frame the peer presents, the three poll states read it (R85, R86, R88). -/

namespace Sys2Proof.Machine

open Sys2Proof

/-- ACK: the frame the ack poll accepts (R65, R85). -/
def execAckFrame (s : State) : Host.Outcome State Fault Refusal :=
  onWire s fun s => receiveFrame s (encode .ackFrame)

/-- NACK: in RR_NACK the block sends the redelivery request, the pattern P_NACK (R66, R87). -/
def execNackFrame (s : State) : Host.Outcome State Fault Refusal :=
  onWire s fun s => if s.st = .rrNack then redeliver s else receiveFrame s (encode .nackFrame)

/-- DATA_H2D: in WC_SEND the block sends the command frame (R63, R84); its direction byte is wrong in a response (R74). -/
def execDataH2D (len lcs : Byte) (tail : List Byte) (s : State) : Host.Outcome State Fault Refusal :=
  onWire s fun s =>
    if s.st = .wcSend then sendFrame s (encode (.dataH2D len lcs tail))
    else receiveFrame s (encode (.dataH2D len lcs tail))

/-- DATA_D2H: the response frame, probed in the length poll and decoded in the data poll (R64, R86, R88). -/
def execDataD2H (len lcs : Byte) (tail : List Byte) (s : State) : Host.Outcome State Fault Refusal :=
  onWire s fun s => receiveFrame s (encode (.dataD2H len lcs tail))

end Sys2Proof.Machine
end

