-- ==== Sys2Proof/Machine/Dispatch.lean ====
section
/-! DEFINITION. The dispatch: one arm per instruction. -/

namespace Sys2Proof.Machine

open Sys2Proof

def exec (i : Instr) (s : State) : Host.Outcome State Fault Refusal :=
  match i with
  | .beginOp => Sys2Proof.Machine.execBegin s
  | .wakeup => Sys2Proof.Machine.execWakeup s
  | .writeCommand header body => Sys2Proof.Machine.execWriteCommand header body s
  | .readResponse cap tmo => Sys2Proof.Machine.execReadResponse cap tmo s
  | .ackFrame => Sys2Proof.Machine.execAckFrame s
  | .nackFrame => Sys2Proof.Machine.execNackFrame s
  | .dataH2D len lcs tail => Sys2Proof.Machine.execDataH2D len lcs tail s
  | .dataD2H len lcs tail => Sys2Proof.Machine.execDataD2H len lcs tail s

end Sys2Proof.Machine
end

