-- ==== Sys2Proof/Machine/Fetch.lean ====
section
/-! DEFINITION. What the next step runs. The block has no program counter and fetches no program (R19, R51): in IDLE its next
instruction is the host's request, in WC_SEND the frame in TXBUF, in RR_NACK the redelivery request, in a poll state the
frame the transport's answer brings. A step that runs no instruction (a delay, a poll that is not ready, a response taken,
a wait, a reset, a host access to OUT, bytes that are no instruction) is settled here. -/

namespace Sys2Proof.Machine

open Sys2Proof

/-- What a step comes to. -/
inductive Fetched where
  /-- The step is `exec i s`. -/
  | run (i : Instr) (s : State)
  /-- The step goes to `s`, running no instruction. -/
  | settled (s : State)
  /-- The step faults. -/
  | fault (f : Fault)
deriving DecidableEq, Repr

/-- IDLE: the host's next request is accepted; a reserved one is refused with REQUEST_ERROR; with none presented the block
waits (R20, R55, R94). -/
def fetchRequest (s : State) : Fetched :=
  match s.requests with
  | [] => .settled s
  | r :: rest =>
    let s1 := { s with requests := rest, draws := s.draws + missingData r }
    match decodeHost (requestBytes s.draws r) with
    | .ok i _ => .run i s1
    | .error _ => .settled (refuseReserved s1 (r.desc.extractLsb' 0 8))

/-- WC_SEND: exactly the bytes `TXBUF[0..TXLEN-1]` go out (R28, R84). -/
def fetchSend (s : State) : Fetched :=
  match decodeWire (txFrame s) with
  | .ok (.dataH2D len lcs tail) _ => .run (.dataH2D len lcs tail) s
  | _ => .settled (sendFrame s (txFrame s))

/-- A poll state: one BusRead. A ready answer's status byte goes to RXBUF[0] and the frame behind it is the instruction;
bytes that are no frame of the table are received all the same; a poll that is not ready leaves nothing (R80, R81, R83, R89). -/
def fetchPoll (s : State) : Fetched :=
  let a := nextAnswer s
  let n := readSize s
  let s1 := busRead s n
  if ready s.params.readyMask n a then
    let s2 := latchRx s1 [byteAt a.bytes 0]
    let f := (a.bytes.take n).drop 1
    match decodeWire f with
    | .ok i _ => .run i s2
    | .error _ => .settled (receiveFrame s2 f)
  else .settled (notReady s1)

/-- The block's own move in each state (R20, R89). -/
def blockMove (s : State) : Fetched :=
  match s.st with
  | .idle => fetchRequest s
  | .wcSend => fetchSend s
  | .wcAckPoll => fetchPoll s
  | .wcAckDelay => .settled (delayStep s)
  | .rrLenPoll => fetchPoll s
  | .rrLenDelay => .settled (delayStep s)
  | .rrNack => .run .nackFrame s
  | .rrDataPoll => fetchPoll s
  | .rrDataDelay => .settled (delayStep s)
  | .respond => .settled (takeResponse s)
  | .unused _ => .fault .badState

/-- Who moves: the schedule's head, and the block once the schedule is used up; a `never` is not used up (R20, R118, R131). -/
def nextMove (s : State) : Fetched :=
  match s.schedule with
  | [] => blockMove s
  | .block :: rest => blockMove { s with schedule := rest }
  | .wait :: rest => .settled { s with schedule := rest }
  | .never :: _ => .settled s
  | .reset :: rest => .settled (takeReset { s with schedule := rest })
  | .hostWritesOut i v :: rest => .settled (hostWriteOut { s with schedule := rest } i.val v)

/-- What a step comes to: F_BAD_STATE while ST holds 0xA to 0xF, whoever would move, since a run has no meaning from there on
(R21, R110, U15); otherwise the next move. -/
def fetch (s : State) : Fetched :=
  match s.st with
  | .unused _ => .fault .badState
  | _ => nextMove s

/-! ### Placing an instruction where the next step fetches it -/

/-- The block is IDLE and the host presents the request next. -/
def placeRequest (s : State) (q : Descriptor) (data : List Byte) : State :=
  { s with st := .idle, requests := ⟨q, data⟩ :: s.requests }

/-- The block is in WC_SEND with the frame in TXBUF. -/
def placeSend (s : State) (f : List Byte) : State := { latchTx s f with st := .wcSend }

/-- The block is in the given poll state and the transport's next answer is ready and brings the frame. -/
def placeAnswer (s : State) (st : St) (f : List Byte) : State :=
  { s with st := st, answers := ⟨true, s.params.readyMask :: f⟩ :: s.answers }

/-- The instruction's bytes are placed where the block meets that instruction: a host operation on the host port, DATA_H2D in
TXBUF, NACK in RR_NACK, ACK in the ack poll, DATA_D2H in the data poll with LEN_D its own length. -/
def placeInstr (s : State) (q : Descriptor) : Instr → State
  | .beginOp => placeRequest s q []
  | .wakeup => placeRequest s q []
  | .writeCommand header body => placeRequest s q (header ++ body)
  | .readResponse _ _ => placeRequest s q []
  | .ackFrame => placeAnswer s .wcAckPoll (encode .ackFrame)
  | .nackFrame => { s with st := .rrNack }
  | .dataH2D len lcs tail => placeSend s (encode (.dataH2D len lcs tail))
  | .dataD2H len lcs tail => placeAnswer { s with lenD := len } .rrDataPoll (encode (.dataD2H len lcs tail))

end Sys2Proof.Machine
end

