-- ==== Sys2Proof/Machine/Step.lean ====
section
/-! DEFINITION. One step: what the fetch comes to, the instruction it found run by exec. And the placing of a table word
where the next step fetches it. -/

namespace Sys2Proof.Machine

open Sys2Proof

/-- What the fetch came to is carried out: an instruction is run by exec. -/
def runFetched : Fetched → Host.Outcome State Fault Refusal
  | .run i s => exec i s
  | .settled s => .next s
  | .fault f => .fault f

/-- One step of the block and its environment (R20, R89). -/
def step (s : State) : Host.Outcome State Fault Refusal := runFetched (fetch s)

/-- The state whose next step fetches and runs the table word `w` of a row of `nbits` bits, as the block's own move. A word
that decodes to no instruction is presented as a host request when it has 32 bits. -/
def State.withFetchWord (s : State) (nbits w : Nat) : State :=
  let s1 := { s with schedule := .block :: s.schedule }
  match decodeTableWord nbits w with
  | some i => placeInstr s1 (BitVec.ofNat 32 w) i
  | none => if nbits = 32 then placeRequest s1 (BitVec.ofNat 32 w) [] else s1

end Sys2Proof.Machine
end

