-- ==== Sys2Proof/Machine/Phases.lean ====
section
/-! DEFINITION. The phase rules R81 and R84 to R88 as the spec's pseudocode writes them, each wait as one poll loop, for the
statements that hold the step table (R89) against them. No step calls them. `fuel` bounds the polls looked at; none means
that the loop has not ended within it (R92). -/

namespace Sys2Proof.Machine

open Sys2Proof

/-- The loop of `PollReady(n, M)` (R81). -/
def pollLoop : Nat → Nat → Nat → State → Option (State × Except ErrorKind (List Byte))
  | 0, _, _, _ => none
  | fuel + 1, n, m, s =>
    let a := nextAnswer s
    let s1 := busRead s n
    if ready s.params.readyMask n a then some (latchRx s1 (a.bytes.take n), .ok (a.bytes.take n))
    else
      let s2 := delay s1
      if m = 0 then pollLoop fuel n m s2
      else
        let s3 := { s2 with attempt := countPoll s2.attempt }
        if s2.attempt.toNat + 1 = m then some (s3, .error .timeout) else pollLoop fuel n m s3

/-- `PollReady(n, M)` (R81). -/
def pollReady (fuel n m : Nat) (s : State) : Option (State × Except ErrorKind (List Byte)) :=
  pollLoop fuel n m { s with attempt := 0 }

/-- SEND, then WAIT_ACK (R84, R85, R99). -/
def writeCommandPhases (fuel : Nat) (s : State) : Option State :=
  let s1 := busWrite s (txFrame s)
  match pollReady fuel 7 s.params.ackMax s1 with
  | none => none
  | some (s2, .error e) => some (raise s2 e)
  | some (s2, .ok r) => if (r.drop 1).take 6 ≠ ackBytes then some (raise s2 .invalidAck) else some (finish s2 0)

/-- WAIT_LENGTH, REDELIVER, then WAIT_DATA (R86, R87, R88, R100). -/
def readResponsePhases (fuel : Nat) (s : State) : Option State :=
  match pollReady fuel 7 s.tmo.toNat s with
  | none => none
  | some (s1, .error e) => some (raise s1 e)
  | some (s1, .ok r) =>
    match decodeLength r with
    | .error e => some (raise s1 e)
    | .ok len =>
      let s2 := { s1 with lenD := len }
      let s3 := busWrite s2 s2.params.nack
      match pollReady fuel (s3.lenD.toNat + 8) s3.tmo.toNat s3 with
      | none => none
      | some (s4, .error e) => some (raise s4 e)
      | some (s4, .ok r) => some (settleDecode s4 (decodeFull r s4.lenD (expectedCode s4.lastCmd) s4.cap))

end Sys2Proof.Machine
end

