-- ==== Sys2Proof/Safety.lean ====
section
/-! DEFINITION. What counts as a good state and a good run: the invariant of the block, runs of several steps, and when two
states differ only in registers that the spec calls dead. -/

namespace Sys2Proof.Machine

open Sys2Proof

/-! ### Groups of control states (R19) -/

/-- A state of WRITE_COMMAND's phases (R19, R90). -/
def inWrite : St → Bool
  | .wcSend => true
  | .wcAckPoll => true
  | .wcAckDelay => true
  | _ => false

/-- A state of READ_RESPONSE's phases (R19, R90). -/
def inRead : St → Bool
  | .rrLenPoll => true
  | .rrLenDelay => true
  | .rrNack => true
  | .rrDataPoll => true
  | .rrDataDelay => true
  | _ => false

/-- A state of the ack wait (R85). -/
def inAckWait : St → Bool
  | .wcAckPoll => true
  | .wcAckDelay => true
  | _ => false

/-- A state of one of the two response waits (R86, R88). -/
def inResponseWait : St → Bool
  | .rrLenPoll => true
  | .rrLenDelay => true
  | .rrDataPoll => true
  | .rrDataDelay => true
  | _ => false

/-- A state in which LEN_D is still to be read (R26). -/
def needsLength : St → Bool
  | .rrNack => true
  | .rrDataPoll => true
  | .rrDataDelay => true
  | _ => false

/-- A poll state: it issues a BusRead (R19). -/
def isPoll : St → Bool
  | .wcAckPoll => true
  | .rrLenPoll => true
  | .rrDataPoll => true
  | _ => false

/-- A delay state: it issues a Delay (R19). -/
def isDelay : St → Bool
  | .wcAckDelay => true
  | .rrLenDelay => true
  | .rrDataDelay => true
  | _ => false

/-- One of the ten named states, not 0xA to 0xF (R21). -/
def isNamed : St → Bool
  | .unused _ => false
  | _ => true

/-! ### The invariant -/

/-- Every buffer has its size, and TXLEN is at most 262 (R28, R29). -/
abbrev BuffersSized (s : State) : Prop :=
  s.txBuf.length = 262 ∧ s.txLen.toNat ≤ 262 ∧ s.rxBuf.length = 263

/-- ATTEMPT is below its phase's limit, and stays 0 where the phase has none (R25). -/
abbrev AttemptBounded (s : State) : Prop :=
  (inAckWait s.st = true → s.attempt.toNat < s.params.ackMax) ∧
  (inResponseWait s.st = true → if s.tmo = 0 then s.attempt = 0 else s.attempt.toNat < s.tmo.toNat)

/-- The operation in flight is the one OP names, and a READ_RESPONSE in flight has a command to answer (R22, R24, R101). -/
abbrev OperationLatched (s : State) : Prop :=
  (inWrite s.st = true → s.op = 0x02 ∧ s.lastCmdValid = true) ∧
  (inRead s.st = true → s.op = 0x03 ∧ s.lastCmdValid = true)

/-- Which STATUS an operation code can end with (R57, R104): the lengths 0 to 253 only after READ_RESPONSE, each error only
from an operation that raises it. -/
def statusFits (op : Byte) (status : Half) : Bool :=
  if op = 0x02 then
    status == 0 || status == ErrorKind.invalidAck.code || status == ErrorKind.timeout.code ||
      status == ErrorKind.requestError.code
  else if op = 0x03 then
    decide (status.toNat ≤ 253) || status == ErrorKind.timeout.code || status == ErrorKind.invalidFrame.code ||
      status == ErrorKind.noSpace.code
  else if op = 0x00 ∨ op = 0x01 then status == 0 || status == ErrorKind.requestError.code
  else status == ErrorKind.requestError.code

/-- In RESPOND, STATUS is one the operation can end with (R27, R104). -/
abbrev StatusLegal (s : State) : Prop := s.st = .respond → statusFits s.op s.status = true

/-- A byte list is a host-to-device data frame whose command code is `c` (R59, R63, R98). -/
def isCommandFrame (f : List Byte) (c : Byte) : Bool :=
  decide (9 ≤ f.length) && decide (f.length ≤ 262) && byteAt f 6 == c &&
    f == frameBuild tfiH2D ((f.drop 6).take (f.length - 8))

/-- In WC_SEND, TXBUF holds a whole command frame for LAST_CMD (R28, R63, R99). -/
abbrev FrameReady (s : State) : Prop := s.st = .wcSend → isCommandFrame (txFrame s) s.lastCmd = true

/-- The invariant: what every step keeps. -/
abbrev Inv (s : State) : Prop :=
  isNamed s.st = true ∧ s.params.valid = true ∧ BuffersSized s ∧ Memory.wf s.out = true ∧ AttemptBounded s ∧
    OperationLatched s ∧ StatusLegal s ∧ FrameReady s

/-! ### Who moves (R20, R131) -/

/-- The block moves in this step: the schedule is used up, or names the block next. -/
def blockMoves (s : State) : Bool :=
  match s.schedule with
  | [] => true
  | .block :: _ => true
  | _ => false

/-- A piece of a schedule in which the block moves and waits, and no one else does anything. -/
def onlyBlockAndWait (moves : List Move) : Bool := moves.all fun m => m == .block || m == .wait

/-! ### Runs -/

/-- `k` steps, where each answers a next state. -/
def stepN : Nat → State → Option State
  | 0, s => some s
  | k + 1, s =>
    match step s with
    | .next t => stepN k t
    | _ => none

/-- The transport's next `k` answers are scripted and none of them is ready for a read of `n` bytes (R80). -/
def nextNotReady (mask : Byte) (n k : Nat) (answers : List Answer) : Bool :=
  decide (k ≤ answers.length) && (answers.take k).all fun a => !ready mask n a

/-- The traffic of `k` failed polls of `n` bytes, latest transaction first (R81). -/
def failedPolls (p : Params) (n : Nat) : Nat → List Txn
  | 0 => []
  | k + 1 => .delay p.pollMs :: .busRead p.devAddr n :: failedPolls p n k

/-- The request that a host presents for a host operation (R53, R56). -/
def requestOf (i : Instr) : Request :=
  let b := encode i
  { desc := byteAt b 3 ++ byteAt b 2 ++ byteAt b 1 ++ byteAt b 0, data := b.drop 4 }

/-- A reserved descriptor in R55's words: OP is 0x04 to 0xFF, or OP is BEGIN or WAKEUP and Q[31:8] is not 0, or OP is
WRITE_COMMAND and Q[31:24] is not 0. -/
abbrev ReservedDescriptor (q : Descriptor) : Prop :=
  4 ≤ (q.extractLsb' 0 8).toNat ∨
  ((q.extractLsb' 0 8 = 0x00 ∨ q.extractLsb' 0 8 = 0x01) ∧ q.extractLsb' 8 24 ≠ 0) ∨
  (q.extractLsb' 0 8 = 0x02 ∧ q.extractLsb' 24 8 ≠ 0)

/-- The bytes of OUT that a received frame changes: with `f` the frame's bytes, the payload's length where Decode-full gets as
far as the copy, none otherwise (R37, R74). -/
def storedBytes (s : State) (f : List Byte) : Nat :=
  if s.st = .rrDataPoll ∧ s.lenD.toNat + 8 ≤ f.length + 1 then
    match decodeFull (byteAt s.rxBuf 0 :: f.take (s.lenD.toNat + 7)) s.lenD (expectedCode s.lastCmd) s.cap with
    | .payload p => p.length
    | .badPayload n => n
    | .error _ => 0
  else 0

/-! ### Dead registers (R16, R32, U2, U3) -/

/-- The two states agree on everything but registers that no later operation reads before writing them (R16, R32): the
latches HLEN and BLEN and the buffer RXBUF in every state; OP once IDLE; CAP and TMO outside READ_RESPONSE; ATTEMPT outside
the waits; LEN_D outside the data phase; STATUS outside RESPOND; TXBUF and TXLEN outside WC_SEND; LAST_CMD while
LAST_CMD_VALID is 0 and no READ_RESPONSE is in flight. -/
abbrev SameLive (s t : State) : Prop :=
  (s.st = t.st ∧ s.lastCmdValid = t.lastCmdValid ∧ s.out = t.out ∧ s.outRaced = t.outRaced ∧ s.params = t.params ∧
    s.requests = t.requests ∧ s.answers = t.answers ∧ s.schedule = t.schedule ∧ s.traffic = t.traffic ∧
    s.responses = t.responses ∧ s.draws = t.draws) ∧
  (s.lastCmdValid = true ∨ inRead s.st = true → s.lastCmd = t.lastCmd) ∧
  (s.st ≠ .idle → s.op = t.op) ∧
  (inRead s.st = true → s.cap = t.cap ∧ s.tmo = t.tmo) ∧
  (inAckWait s.st = true ∨ inResponseWait s.st = true → s.attempt = t.attempt) ∧
  (needsLength s.st = true → s.lenD = t.lenD) ∧
  (s.st = .respond → s.status = t.status) ∧
  (s.st = .wcSend → txFrame s = txFrame t)

end Sys2Proof.Machine
end

