-- ==== Sys2Proof/Certificates/Slice0/Obligations.lean ====
section
/-! DEFINITION. The statements for the provers, in the order of OBLIGATIONS.json. Each docstring names the rules it rests on. -/

open Sys2Proof Sys2Proof.Machine

/-! ### Encodings -/

/-- R39, R53, R56, R59, R65, R66: decoding an encoded well-formed instruction on its port gives it back, every operand at every
value. -/
def Obligations.DecodeOfEncodeIsTheInstruction : Prop :=
  ∀ i : Instr, i.wellFormed = true → decode i.port (encode i) = .ok i []

/-- R53, R54, R56: a host request that decodes is the encoding of what it decodes to, followed by what was not consumed. -/
def Obligations.HostDecodeLosesNoByte : Prop :=
  ∀ (bytes rest : List Byte) (i : Instr), decodeHost bytes = .ok i rest →
    encode i ++ rest = bytes ∧ i.wellFormed = true ∧ i.port = .host

/-- R55: the decoder rejects as reserved exactly the descriptors R55 lists. -/
def Obligations.DecoderReservesExactlyTheListedDescriptors : Prop :=
  ∀ (q : Descriptor) (data : List Byte),
    decodeHost (descriptorBytes q ++ data) = .error (.reserved (q.extractLsb' 0 8)) ↔ ReservedDescriptor q

/-- R54: the four operation codes, and the operand fields as plain unsigned numbers. -/
def Obligations.OperationCodesAndOperandFields : Prop :=
  ∀ (q : Descriptor) (data : List Byte),
    (q = 0x00000000 → decodeHost (descriptorBytes q ++ data) = .ok .beginOp data) ∧
    (q = 0x00000001 → decodeHost (descriptorBytes q ++ data) = .ok .wakeup data) ∧
    (q.extractLsb' 0 8 = 0x02 → q.extractLsb' 24 8 = 0 →
      data.length = (q.extractLsb' 8 8).toNat + (q.extractLsb' 16 8).toNat →
      decodeHost (descriptorBytes q ++ data) =
        .ok (.writeCommand (data.take (q.extractLsb' 8 8).toNat) (data.drop (q.extractLsb' 8 8).toNat)) []) ∧
    (q.extractLsb' 0 8 = 0x03 →
      decodeHost (descriptorBytes q ++ data) = .ok (.readResponse (q.extractLsb' 8 8) (q.extractLsb' 16 16)) data)

/-- R53, R69 and the opcode table: words written out from the encodings decode to the instructions they stand for. That the
bytes a row's word does not hold (the data byte of WRITE_COMMAND, the tails of the data frames) are zeros is the model's
choice, log entry 16. -/
def Obligations.SampleWordsDecode : Prop :=
  decodeTableWord 32 0x00000000 = some .beginOp ∧ decodeTableWord 32 0x00000001 = some .wakeup ∧
  decodeTableWord 32 0x00000102 = some (.writeCommand [0x00] []) ∧
  decodeTableWord 32 0x00641003 = some (.readResponse 0x10 0x0064) ∧
  decodeTableWord 48 0x0000FF00FF00 = some .ackFrame ∧ decodeTableWord 40 0x0000FFFF00 = some .nackFrame ∧
  decodeTableWord 48 0x0000FF02FED4 = some (.dataH2D 0x02 0xFE [0x00, 0x00, 0x00]) ∧
  decodeTableWord 48 0x0000FF02FED5 = some (.dataD2H 0x02 0xFE [0x00, 0x00, 0x00])

/-- R19, R21: the codes of the ten named states, and the codes above 0x9 are the unused ones. -/
def Obligations.StateCodesAreTheTableCodes : Prop :=
  St.idle.code = 0x0 ∧ St.wcSend.code = 0x1 ∧ St.wcAckPoll.code = 0x2 ∧ St.wcAckDelay.code = 0x3 ∧
  St.rrLenPoll.code = 0x4 ∧ St.rrLenDelay.code = 0x5 ∧ St.rrNack.code = 0x6 ∧ St.rrDataPoll.code = 0x7 ∧
  St.rrDataDelay.code = 0x8 ∧ St.respond.code = 0x9 ∧
  ∀ c : BitVec 4, isNamed (St.ofCode c) = true ↔ c.toNat ≤ 9

/-! ### The frame codec -/

/-- R59, R60: the layout of a data frame, field by field, and its length. -/
def Obligations.DataFrameLayout : Prop :=
  ∀ (t : Byte) (x : List Byte), x.length ≤ 254 →
    (frameBuild t x).length = x.length + 8 ∧ (frameBuild t x).length ≤ 262 ∧
    (frameBuild t x).length = (byteAt (frameBuild t x) 3).toNat + 7 ∧
    byteAt (frameBuild t x) 0 = 0x00 ∧ byteAt (frameBuild t x) 1 = 0x00 ∧ byteAt (frameBuild t x) 2 = 0xFF ∧
    (byteAt (frameBuild t x) 3).toNat = x.length + 1 ∧
    byteAt (frameBuild t x) 4 = neg8 (byteAt (frameBuild t x) 3) ∧
    byteAt (frameBuild t x) 5 = t ∧
    (∀ k < x.length, byteAt (frameBuild t x) (6 + k) = byteAt x k) ∧
    byteAt (frameBuild t x) (6 + x.length) = neg8 (sum8 (t :: x)) ∧
    byteAt (frameBuild t x) (7 + x.length) = 0x00

/-- R61, R62: each checksum makes its sum 0 modulo 256. -/
def Obligations.ChecksumsCancel : Prop :=
  ∀ (t : Byte) (x : List Byte), x.length ≤ 254 →
    let len := byteAt (frameBuild t x) 3
    let lcs := byteAt (frameBuild t x) 4
    let dcs := byteAt (frameBuild t x) (6 + x.length)
    lcs = neg8 len ∧ (len.toNat + lcs.toNat) % 256 = 0 ∧ lcs.toNat = 256 - len.toNat ∧ 1 ≤ lcs.toNat ∧
    dcs = neg8 (sum8 (t :: x)) ∧ sum8 (t :: x ++ [dcs]) = 0 ∧ (dcs = 0 ↔ byteTotal (t :: x) % 256 = 0)

/-- R76: parsing an encoded command gives back header and body, and both of its checksums cancel. -/
def Obligations.ParseOfEncodeIsHeaderAndBody : Prop :=
  ∀ header body : List Byte, header.length + body.length ≤ 254 →
    frameParse (encodeFrame header body) = .ok (0xD4, header ++ body) ∧
    ((byteAt (encodeFrame header body) 3).toNat + (byteAt (encodeFrame header body) 4).toNat) % 256 = 0 ∧
    sum8 (((encodeFrame header body).drop 5).take ((byteAt (encodeFrame header body) 3).toNat + 1)) = 0

/-- R77: when DecodeFull succeeds, with what result; and what it makes of a built response frame. -/
def Obligations.DecodeFullSucceedsExactlyOnValidFrames : Prop :=
  (∀ (r : List Byte) (ld ec cap : Byte), r.length = ld.toNat + 8 →
    ((∃ p, decodeFull r ld ec cap = .payload p) ↔
      (byteAt r 1 = 0x00 ∧ byteAt r 2 = 0x00 ∧ byteAt r 3 = 0xFF ∧
        ((byteAt r 4).toNat + (byteAt r 5).toNat) % 256 = 0 ∧ byteAt r 4 = ld ∧ 2 ≤ ld.toNat ∧ byteAt r 6 = 0xD5 ∧
        byteAt r 7 = ec ∧ ld.toNat - 2 ≤ cap.toNat ∧ sum8 ((r.drop 6).take (ld.toNat + 1)) = 0)) ∧
    ∀ p, decodeFull r ld ec cap = .payload p →
      p.length = ld.toNat - 2 ∧ (∀ j < ld.toNat - 2, byteAt p j = byteAt r (8 + j)) ∧
      ∀ s : State, s.outRaced = false →
        (settleDecode s (decodeFull r ld ec cap)).status = BitVec.ofNat 16 (ld.toNat - 2) ∧
        ∀ j < ld.toNat - 2, outRead (settleDecode s (decodeFull r ld ec cap)).out j = some (byteAt r (8 + j))) ∧
  (∀ (sb ec cap : Byte) (p : List Byte), p.length ≤ 253 →
    decodeFull (sb :: frameBuild 0xD5 (ec :: p)) (BitVec.ofNat 8 (p.length + 2)) ec cap =
      if p.length ≤ cap.toNat then .payload p else .error .noSpace)

/-- R78: a single-byte change of a frame that decodes. Any change of frame bytes 0 to DCS is INVALID_FRAME; a change of the
POSTAMBLE or of the status byte changes no decode; a status byte without a ready bit makes the poll not ready. -/
def Obligations.SingleByteCorruptionIsDetected : Prop :=
  ∀ (r p : List Byte) (ld ec cap : Byte), r.length = ld.toNat + 8 → decodeFull r ld ec cap = .payload p →
    (∀ (k : Nat) (v : Byte), 1 ≤ k → k ≤ ld.toNat + 6 → v ≠ byteAt r k →
      decodeFull (r.set k v) ld ec cap = .error .invalidFrame ∨ ∃ n, decodeFull (r.set k v) ld ec cap = .badPayload n) ∧
    (∀ v : Byte, decodeFull (r.set (ld.toNat + 7) v) ld ec cap = .payload p) ∧
    (∀ v : Byte, decodeFull (r.set 0 v) ld ec cap = .payload p) ∧
    (∀ mask v : Byte, v &&& mask = byteAt r 0 &&& mask → ∀ ok n, ready mask n ⟨ok, r.set 0 v⟩ = ready mask n ⟨ok, r⟩) ∧
    (∀ mask v : Byte, v &&& mask = 0 → ∀ ok n, ready mask n ⟨ok, r.set 0 v⟩ = false)

/-- R74, R107: NO_SPACE and the payload-checksum failure happen exactly when every earlier check passes. -/
def Obligations.DecodeFullReportsTheFirstFailedCheck : Prop :=
  ∀ (r : List Byte) (ld ec cap : Byte),
    let early := byteAt r 1 = 0x00 ∧ byteAt r 2 = 0x00 ∧ byteAt r 3 = 0xFF ∧
      ((byteAt r 4).toNat + (byteAt r 5).toNat) % 256 = 0 ∧ byteAt r 4 = ld ∧ 2 ≤ ld.toNat ∧ byteAt r 6 = 0xD5 ∧
      byteAt r 7 = ec
    (decodeFull r ld ec cap = .error .invalidFrame ↔ ¬early) ∧
    (decodeFull r ld ec cap = .error .noSpace ↔ early ∧ cap.toNat < ld.toNat - 2) ∧
    (∀ n, decodeFull r ld ec cap = .badPayload n ↔
      early ∧ ld.toNat - 2 ≤ cap.toNat ∧ n = ld.toNat - 2 ∧
        (byteTotal (byteAt r 6 :: byteAt r 7 :: (r.drop 8).take n) + (byteAt r (8 + n)).toNat) % 256 ≠ 0)

/-- R73: the length probe looks at the frame head and at nothing else. -/
def Obligations.DecodeLengthChecksTheHeadOnly : Prop :=
  ∀ r : List Byte,
    (byteAt r 1 = 0x00 ∧ byteAt r 2 = 0x00 ∧ byteAt r 3 = 0xFF → decodeLength r = .ok (byteAt r 4)) ∧
    (¬(byteAt r 1 = 0x00 ∧ byteAt r 2 = 0x00 ∧ byteAt r 3 = 0xFF) → decodeLength r = .error .invalidFrame)

/-! ### The host operations -/

/-- R95, R96: BEGIN and WAKEUP end at once with STATUS 0 and change nothing but OP, STATUS and ST. -/
def Obligations.BeginAndWakeupOnlyFinish : Prop :=
  ∀ s : State, s.st = .idle →
    exec .beginOp s = .next { s with op := 0x00, status := 0, st := .respond } ∧
    exec .wakeup s = .next { s with op := 0x01, status := 0, st := .respond }

/-- R72, R94, R98, R99: an accepted WRITE_COMMAND latches its operands, takes H[0] as the command code, puts the encoded frame in
TXBUF and goes to WC_SEND. -/
def Obligations.WriteCommandBuildsTheFrame : Prop :=
  ∀ (s : State) (header body : List Byte), s.st = .idle → 1 ≤ header.length → header.length + body.length ≤ 254 →
    exec (.writeCommand header body) s = .next { s with
      op := 0x02, hlen := BitVec.ofNat 8 header.length, blen := BitVec.ofNat 8 body.length,
      lastCmd := byteAt header 0, lastCmdValid := true,
      txBuf := encodeFrame header body ++ s.txBuf.drop (header.length + body.length + 8),
      txLen := BitVec.ofNat 9 (header.length + body.length + 8), st := .wcSend }

/-- R97: WRITE_COMMAND with HLEN = 0 or HLEN + BLEN > 254 ends at once with REQUEST_ERROR; only OP, HLEN, BLEN, ST and STATUS
change. -/
def Obligations.WriteCommandSizesAreChecked : Prop :=
  ∀ (s : State) (header body : List Byte), s.st = .idle →
    header.length = 0 ∨ header.length + body.length > 254 →
    exec (.writeCommand header body) s = .next { s with
      op := 0x02, hlen := BitVec.ofNat 8 header.length, blen := BitVec.ofNat 8 body.length,
      status := BitVec.ofInt 16 (-5), st := .respond }

/-- R81, R86, R94, R100: READ_RESPONSE after a command latches CAP and TMO and starts the length wait with ATTEMPT = 0. (That it also
clears the model's own field outRaced is the model's choice, log entry 10.) -/
def Obligations.ReadResponseStartsTheLengthWait : Prop :=
  ∀ (s : State) (cap : Byte) (tmo : Half), s.st = .idle → s.lastCmdValid = true →
    exec (.readResponse cap tmo) s = .next { s with
      op := 0x03, cap := cap, tmo := tmo, attempt := 0, outRaced := false, st := .rrLenPoll }

/-- R101: READ_RESPONSE with LAST_CMD_VALID = 0 is the model fault F_NO_COMMAND. -/
def Obligations.ReadResponseNeedsACommand : Prop :=
  ∀ (s : State) (cap : Byte) (tmo : Half), s.st = .idle → s.lastCmdValid = false →
    exec (.readResponse cap tmo) s = .fault .noCommand

/-- R55: a reserved descriptor is accepted and ends at once with REQUEST_ERROR: no register but OP, ST and STATUS changes, no
transaction, no write to OUT. (That the draw counter counts request data the host did not supply is the model's choice, log
entry 8.) -/
def Obligations.ReservedDescriptorsAreRefused : Prop :=
  ∀ (s : State) (r : Request) (rest : List Request), s.st = .idle → s.schedule = [] → s.requests = r :: rest →
    ReservedDescriptor r.desc →
    step s = .next { s with
      requests := rest, draws := s.draws + missingData r, op := r.desc.extractLsb' 0 8,
      status := BitVec.ofInt 16 (-5), st := .respond }

/-- R94, R122: a busy block does not accept: a host operation waits and changes nothing, and no step takes a request off the host
port but one that starts in IDLE. -/
def Obligations.BusyBlockKeepsRequestsWaiting : Prop :=
  (∀ (s : State) (i : Instr), i.port = .host → s.st ≠ .idle → isNamed s.st = true → exec i s = .next s) ∧
  (∀ s t : State, step s = .next t → s.st ≠ .idle → t.requests = s.requests)

/-! ### The wire frames -/

/-- R84, R89: WC_SEND writes exactly `TXBUF[0..TXLEN-1]` in one BusWrite whatever its answer, and the ack wait starts with
ATTEMPT = 0. That exec of DATA_H2D in WC_SEND is that write of its own bytes, whatever TXBUF holds, is the model's choice, log
entry 1. -/
def Obligations.CommandFrameGoesOutInOneWrite : Prop :=
  ∀ s : State, s.st = .wcSend →
    (s.schedule = [] → step s = .next { s with
      traffic := .busWrite s.params.devAddr (s.txBuf.take s.txLen.toNat) :: s.traffic, answers := s.answers.tail,
      draws := s.draws + freeAnswersDrawn s.answers, attempt := 0, st := .wcAckPoll }) ∧
    ∀ (len lcs : Byte) (tail : List Byte), exec (.dataH2D len lcs tail) s = .next { s with
      traffic := .busWrite s.params.devAddr (0x00 :: 0x00 :: 0xFF :: len :: lcs :: 0xD4 :: tail) :: s.traffic,
      answers := s.answers.tail, draws := s.draws + freeAnswersDrawn s.answers, attempt := 0, st := .wcAckPoll }

/-- R87: RR_NACK writes the redelivery request P_NACK in one BusWrite whatever its answer, and the data wait starts. -/
def Obligations.RedeliveryRequestGoesOut : Prop :=
  ∀ s : State, s.st = .rrNack → exec .nackFrame s = .next { s with
    traffic := .busWrite s.params.devAddr s.params.nack :: s.traffic, answers := s.answers.tail,
    draws := s.draws + freeAnswersDrawn s.answers, attempt := 0, st := .rrDataPoll }

/-- R65, R85: the ack frame in the ack poll ends WRITE_COMMAND with STATUS 0. -/
def Obligations.AckFrameEndsTheAckWait : Prop :=
  ∀ s : State, s.st = .wcAckPoll → exec .ackFrame s = .next { s with
    rxBuf := [byteAt s.rxBuf 0, 0x00, 0x00, 0xFF, 0x00, 0xFF, 0x00] ++ s.rxBuf.drop 7, status := 0, st := .respond }

/-- R85, R89: a ready answer of the ack poll ends WRITE_COMMAND, with 0 when its six frame bytes are the ack pattern and with
INVALID_ACK when any of them differs; the status byte is not compared. -/
def Obligations.AckPollComparesSixBytes : Prop :=
  ∀ s : State, s.st = .wcAckPoll → s.schedule = [] → ready s.params.readyMask 7 (nextAnswer s) = true →
    step s = .next { s with
      traffic := .busRead s.params.devAddr 7 :: s.traffic, answers := s.answers.tail,
      draws := s.draws + freeAnswersDrawn s.answers,
      rxBuf := (nextAnswer s).bytes.take 7 ++ s.rxBuf.drop 7,
      status := if ((nextAnswer s).bytes.drop 1).take 6 = [0x00, 0x00, 0xFF, 0x00, 0xFF, 0x00] then 0
        else BitVec.ofInt 16 (-1),
      st := .respond }

/-- R73, R86: a data frame in the length poll, of either direction and whatever its LCS, gives LEN_D its LEN; RR_NACK follows. -/
def Obligations.ProbeTakesTheDeclaredLength : Prop :=
  ∀ (s : State) (len lcs : Byte) (tail : List Byte), s.st = .rrLenPoll →
    exec (.dataD2H len lcs tail) s = .next { s with
      rxBuf := [byteAt s.rxBuf 0, 0x00, 0x00, 0xFF, len, lcs, 0xD5] ++ s.rxBuf.drop 7, lenD := len, st := .rrNack } ∧
    exec (.dataH2D len lcs tail) s = .next { s with
      rxBuf := [byteAt s.rxBuf 0, 0x00, 0x00, 0xFF, len, lcs, 0xD4] ++ s.rxBuf.drop 7, lenD := len, st := .rrNack }

/-- R64, R74, R88: a valid response frame in the data poll puts its payload into OUT in wire order and ends READ_RESPONSE with
the payload's length. -/
def Obligations.ValidResponseIsDelivered : Prop :=
  ∀ (s : State) (len lcs : Byte) (tail p : List Byte), s.st = .rrDataPoll → s.outRaced = false →
    p.length ≤ 253 → p.length ≤ s.cap.toNat → s.lenD.toNat = p.length + 2 →
    encode (.dataD2H len lcs tail) = frameBuild 0xD5 (expectedCode s.lastCmd :: p) →
    exec (.dataD2H len lcs tail) s = .next { s with
      rxBuf := byteAt s.rxBuf 0 :: encode (.dataD2H len lcs tail) ++ s.rxBuf.drop (p.length + 10),
      out := outFill s.out 0 p, status := BitVec.ofNat 16 p.length, st := .respond } ∧
    (∀ j < p.length, outRead (outFill s.out 0 p) j = some (byteAt p j)) ∧
    (∀ j, p.length ≤ j → outRead (outFill s.out 0 p) j = outRead s.out j)

/-- R74, R107, R108: a frame in the data poll on which DecodeFull reports an error before the copy ends READ_RESPONSE with that
error and leaves OUT untouched; one whose payload checksum fails ends it with INVALID_FRAME, and the payload's places in OUT
hold free bytes. -/
def Obligations.RejectedResponseLeavesOut : Prop :=
  ∀ (s : State) (len lcs : Byte) (tail : List Byte), s.st = .rrDataPoll → s.lenD.toNat + 1 ≤ tail.length →
    let f := (encode (.dataD2H len lcs tail)).take (s.lenD.toNat + 7)
    let rx := byteAt s.rxBuf 0 :: f ++ s.rxBuf.drop (s.lenD.toNat + 8)
    (∀ e, decodeFull (byteAt s.rxBuf 0 :: f) s.lenD (expectedCode s.lastCmd) s.cap = .error e →
      exec (.dataD2H len lcs tail) s = .next { s with rxBuf := rx, status := e.code, st := .respond }) ∧
    (∀ n, decodeFull (byteAt s.rxBuf 0 :: f) s.lenD (expectedCode s.lastCmd) s.cap = .badPayload n →
      ∃ t, exec (.dataD2H len lcs tail) s = .next t ∧ t.st = .respond ∧ t.status = BitVec.ofInt 16 (-3) ∧ t.rxBuf = rx ∧
        (∀ j < n, outRead t.out j = some (Config.freeByte (s.draws + j))) ∧
        ∀ j, n ≤ j → outRead t.out j = outRead s.out j)

/-- R20, R79 and log entry 7 (the model's choice): a frame on the wire that the block's state does not take changes nothing. -/
def Obligations.FramesNobodyReadsChangeNothing : Prop :=
  ∀ (s : State) (len lcs : Byte) (tail : List Byte), isNamed s.st = true → isPoll s.st = false →
    exec .ackFrame s = .next s ∧ exec (.dataD2H len lcs tail) s = .next s ∧
    (s.st ≠ .rrNack → exec .nackFrame s = .next s) ∧ (s.st ≠ .wcSend → exec (.dataH2D len lcs tail) s = .next s)

/-! ### Frames -/

/-- R24, R46, R55, R95 to R100: what acceptance of a host operation leaves unchanged. -/
def Obligations.HostOperationsLeaveTheRest : Prop :=
  ∀ (i : Instr) (s t : State), i.port = .host → exec i s = .next t →
    (t.lenD = s.lenD ∧ t.rxBuf = s.rxBuf ∧ t.params = s.params ∧ t.requests = s.requests ∧ t.answers = s.answers ∧
      t.schedule = s.schedule ∧ t.traffic = s.traffic ∧ t.responses = s.responses ∧ t.draws = s.draws) ∧
    (∀ k, outRead t.out k = outRead s.out k) ∧
    ((∀ h b, i ≠ .writeCommand h b) → t.hlen = s.hlen ∧ t.blen = s.blen ∧ t.lastCmd = s.lastCmd ∧
      t.lastCmdValid = s.lastCmdValid ∧ t.txBuf = s.txBuf ∧ t.txLen = s.txLen) ∧
    ((∀ c m, i ≠ .readResponse c m) → t.cap = s.cap ∧ t.tmo = s.tmo ∧ t.attempt = s.attempt ∧ t.outRaced = s.outRaced) ∧
    (t.st ≠ .respond ∨ s.st = .respond → t.status = s.status)

/-- R22, R26, R37, R85 to R88: what a frame on the wire leaves unchanged: the operand latches, LAST_CMD, TXBUF, and every byte of
OUT outside the payload's places, whose number is `storedBytes`. -/
def Obligations.WireFramesLeaveTheRest : Prop :=
  ∀ (i : Instr) (s t : State), i.port = .wire → exec i s = .next t →
    (t.op = s.op ∧ t.hlen = s.hlen ∧ t.blen = s.blen ∧ t.cap = s.cap ∧ t.tmo = s.tmo ∧ t.lastCmd = s.lastCmd ∧
      t.lastCmdValid = s.lastCmdValid ∧ t.txBuf = s.txBuf ∧ t.txLen = s.txLen ∧ t.outRaced = s.outRaced ∧
      t.params = s.params ∧ t.requests = s.requests ∧ t.schedule = s.schedule ∧ t.responses = s.responses) ∧
    (∀ k, storedBytes s (encode i) ≤ k → outRead t.out k = outRead s.out k) ∧
    (s.st ≠ .rrLenPoll → t.lenD = s.lenD) ∧
    (t.st ≠ .respond ∨ s.st = .respond → t.status = s.status) ∧
    (isPoll s.st = false → t.rxBuf = s.rxBuf ∧ t.out = s.out) ∧
    (isPoll s.st = true → t.traffic = s.traffic ∧ t.answers = s.answers ∧ t.attempt = s.attempt)

/-! ### One step -/

/-- R20, R94: in IDLE a step is exec of the instruction the host's next request decodes to, the request taken off the port. For
a request with fewer data bytes than R56 asks for, the free bytes decoded in their place and the draws counted are the model's
choice, log entry 8. -/
def Obligations.StepRunsTheHostRequest : Prop :=
  ∀ (s : State) (r : Request) (rest : List Request) (i : Instr) (extra : List Byte),
    s.st = .idle → s.schedule = [] → s.requests = r :: rest →
    decodeHost (requestBytes s.draws r) = .ok i extra →
    step s = exec i { s with requests := rest, draws := s.draws + missingData r }

/-- R81, R89: in a poll state whose answer is ready, a step is the BusRead, the status byte in RXBUF[0], and exec of the frame
that the other bytes decode to. -/
def Obligations.StepRunsTheReceivedFrame : Prop :=
  ∀ (s : State) (i : Instr) (extra : List Byte), isPoll s.st = true → s.schedule = [] →
    ready s.params.readyMask (readSize s) (nextAnswer s) = true →
    decodeWire (((nextAnswer s).bytes.take (readSize s)).drop 1) = .ok i extra →
    step s = exec i { s with
      traffic := .busRead s.params.devAddr (readSize s) :: s.traffic, answers := s.answers.tail,
      draws := s.draws + freeAnswersDrawn s.answers,
      rxBuf := byteAt (nextAnswer s).bytes 0 :: s.rxBuf.drop 1 }

/-- R84, R87, R89: in WC_SEND a step is exec of the frame in TXBUF, in RR_NACK it is exec of the redelivery request. -/
def Obligations.StepRunsTheFramesItSends : Prop :=
  (∀ (s : State) (len lcs : Byte) (tail extra : List Byte), s.st = .wcSend → s.schedule = [] →
    decodeWire (txFrame s) = .ok (.dataH2D len lcs tail) extra → step s = exec (.dataH2D len lcs tail) s) ∧
  (∀ s : State, s.st = .rrNack → s.schedule = [] → step s = exec .nackFrame s)

/-- R83: a not-ready answer is discarded whole: the poll's step changes nothing but the traffic, the answer used up and ST, and the
next step is the Delay, with the ATTEMPT increment where the phase has a limit, and TIMEOUT where that reaches it. -/
def Obligations.NotReadyPollIsDiscarded : Prop :=
  ∀ s : State, isPoll s.st = true → s.schedule = [] →
    ready s.params.readyMask (readSize s) (nextAnswer s) = false →
    let t := { s with
      traffic := .busRead s.params.devAddr (readSize s) :: s.traffic, answers := s.answers.tail,
      draws := s.draws + freeAnswersDrawn s.answers, st := delayOf s.st }
    let u := { t with traffic := .delay s.params.pollMs :: t.traffic }
    step s = .next t ∧
    step t = .next (
      if pollLimit s = 0 then { u with st := s.st }
      else if s.attempt.toNat + 1 = pollLimit s then
        { u with attempt := countPoll s.attempt, status := BitVec.ofInt 16 (-2), st := .respond }
      else { u with attempt := countPoll s.attempt, st := s.st })

/-- R20, R35, R41, R45: the block's move issues exactly one transaction in a transport state, of the kind, device and size the rules
give, and none in IDLE or RESPOND. -/
def Obligations.OneTransactionForEachMove : Prop :=
  ∀ s t : State, s.schedule = [] → step s = .next t →
    t.traffic =
      match s.st with
      | .wcSend => .busWrite s.params.devAddr (txFrame s) :: s.traffic
      | .rrNack => .busWrite s.params.devAddr s.params.nack :: s.traffic
      | .wcAckPoll => .busRead s.params.devAddr 7 :: s.traffic
      | .rrLenPoll => .busRead s.params.devAddr 7 :: s.traffic
      | .rrDataPoll => .busRead s.params.devAddr (s.lenD.toNat + 8) :: s.traffic
      | .wcAckDelay => .delay s.params.pollMs :: s.traffic
      | .rrLenDelay => .delay s.params.pollMs :: s.traffic
      | .rrDataDelay => .delay s.params.pollMs :: s.traffic
      | _ => s.traffic

/-- R22, R23: apart from a reset event, LAST_CMD and LAST_CMD_VALID change only where WRITE_COMMAND is accepted, to byte 6 of the
frame it then sends and to 1. -/
def Obligations.OnlyWriteCommandWritesLastCmd : Prop :=
  ∀ s t : State, step s = .next t → s.schedule.head? ≠ some .reset →
    (t.lastCmd = s.lastCmd ∧ t.lastCmdValid = s.lastCmdValid) ∨
    (s.st = .idle ∧ t.st = .wcSend ∧ t.lastCmdValid = true ∧ t.lastCmd = byteAt (txFrame t) 6)

/-- R27, R108: apart from a reset event, STATUS changes only on the way into RESPOND. -/
def Obligations.StatusChangesOnlyIntoRespond : Prop :=
  ∀ s t : State, step s = .next t → s.schedule.head? ≠ some .reset → t.st ≠ .respond ∨ s.st = .respond →
    t.status = s.status

/-- R57, R89, R94, R109: the host is given STATUS exactly where RESPOND is left for IDLE other than by reset; a request leaves the
host port one at a time and only in IDLE; and the move that leaves RESPOND always comes to IDLE, changing nothing else. -/
def Obligations.OneResponseForEachRespond : Prop :=
  (∀ s t : State, step s = .next t →
    (t.responses = s.responses ∨
      (s.st = .respond ∧ t.st = .idle ∧ s.schedule.head? ≠ some .reset ∧ t.responses = s.status :: s.responses)) ∧
    (s.st = .respond → s.schedule.head? ≠ some .reset → t.st = .idle → t.responses = s.status :: s.responses) ∧
    (t.requests = s.requests ∨ (s.st = .idle ∧ ∃ r, s.requests = r :: t.requests))) ∧
  ∀ s : State, s.st = .respond →
    (s.schedule = [] → step s = .next { s with st := .idle, responses := s.status :: s.responses }) ∧
    ∀ rest, s.schedule = .block :: rest →
      step s = .next { s with st := .idle, responses := s.status :: s.responses, schedule := rest }

/-- R37, R74, R118: apart from the host's own writes, OUT changes only where a data poll is answered, and never at an index at or
above CAP, or where a reset cuts a READ_RESPONSE off. -/
def Obligations.OutIsWrittenBelowCapacityOnly : Prop :=
  ∀ s t : State, step s = .next t → (∀ i v, s.schedule.head? ≠ some (.hostWritesOut i v)) →
    ∀ k, outRead t.out k ≠ outRead s.out k →
      (s.st = .rrDataPoll ∧ t.st = .respond ∧ k < s.cap.toNat) ∨
      (s.schedule.head? = some .reset ∧ readRunning s = true)

/-- R8, R17: no step changes a parameter. -/
def Obligations.StepsKeepTheParameters : Prop :=
  ∀ s t : State, step s = .next t → t.params = s.params

/-- R21, R110, U15: the only faults are F_NO_COMMAND, exactly where the block moves and IDLE accepts a READ_RESPONSE with
LAST_CMD_VALID = 0, and F_BAD_STATE, exactly in the unused states, whoever would move; no step is refused. (That a schedule in
State says who moves is the model's choice, log entry 9.) -/
def Obligations.FaultsAreTheTwoModelFaults : Prop :=
  ∀ s : State,
    (step s = .fault .badState ↔ isNamed s.st = false) ∧
    (step s = .fault .noCommand ↔ blockMoves s = true ∧ s.st = .idle ∧ s.lastCmdValid = false ∧
      ∃ r rest cap tmo extra, s.requests = r :: rest ∧
        decodeHost (requestBytes s.draws r) = .ok (.readResponse cap tmo) extra) ∧
    ∀ r, step s ≠ .refused r

/-- R118, R119: the reset event from any named state leaves the block IDLE with LAST_CMD_VALID = 0, delivers no STATUS, and leaves the
parameters, what was put out and (the model's choice, log entry 14) the waiting requests as they were. OUT stays, but holds a
free byte at every index when a READ_RESPONSE was in flight, which here it is until its response is taken (the model's choice,
log entry 11). In an unused state the step is F_BAD_STATE instead, R110. -/
def Obligations.ResetEventAbandonsTheOperation : Prop :=
  ∀ (s : State) (rest : List Move), isNamed s.st = true → s.schedule = .reset :: rest →
    ∃ t, step s = .next t ∧ t.st = .idle ∧ t.lastCmdValid = false ∧ t.responses = s.responses ∧
      t.requests = s.requests ∧ t.traffic = s.traffic ∧ t.params = s.params ∧ t.schedule = rest ∧ t.txLen.toNat ≤ 262 ∧
      (readRunning s = false → t.out = s.out) ∧
      (readRunning s = true → ∀ k < 255, outRead t.out k = some (Config.freeByte (s.draws + k)))

/-- R32, R118: what the spec gives for the state after reset. -/
def Obligations.ResetStateIsIdleWithoutCommand : Prop :=
  State.reset.st = .idle ∧ State.reset.lastCmdValid = false ∧ State.reset.txBuf.length = 262 ∧
    State.reset.rxBuf.length = 263

/-- R50: a host write to OUT while a READ_RESPONSE runs, at any index (the model's choice, log entry 10), leaves OUT unspecified:
every index holds a free byte, what that operation then stores are free bytes, and a host read meanwhile sees a free byte. Where none runs and no READ_RESPONSE waits in RESPOND
for its response to be taken (the model's later point, log entry 11), a write writes its byte and a read sees what OUT holds.
In an unused state the step is F_BAD_STATE instead, R110. -/
def Obligations.HostWriteDuringReadSpoilsOut : Prop :=
  ∀ (s : State) (i : Fin 255) (v : Byte) (rest : List Move), isNamed s.st = true →
    s.schedule = .hostWritesOut i v :: rest →
    ∃ t, step s = .next t ∧ t.st = s.st ∧
      (inRead s.st = true → (∀ k < 255, outRead t.out k = some (Config.freeByte (s.draws + k))) ∧
        ∀ p k, k < p.length → outRead (outStore t p).out k = some (Config.freeByte (t.draws + k))) ∧
      (inRead s.st = true → ∀ n k, hostReadOut s n k = some (Config.freeOutRead n k)) ∧
      (readRunning s = false → outRead t.out i.val = some v ∧ (∀ k, k ≠ i.val → outRead t.out k = outRead s.out k) ∧
        ∀ n k, hostReadOut t n k = outRead t.out k)

/-! ### Invariants -/

/-- R19, R21, R22, R25, R27, R28, R29, R37, R104: every step keeps the invariant, from every state that meets it. -/
def Obligations.StepKeepsTheInvariant : Prop :=
  ∀ s t : State, Inv s → step s = .next t → Inv t

/-- The state after reset meets the invariant (the parameters at R8's defaults). -/
def Obligations.ResetMeetsTheInvariant : Prop := Inv State.reset

/-- R16, R32, U2, U3: two states that differ only in registers the spec calls dead take the same step, and differ again only
so: no response, no transaction and no byte of OUT ever depends on them. -/
def Obligations.DeadRegistersNeverMatter : Prop :=
  ∀ s t s' : State, SameLive s t → step s = .next s' → ∃ t', step t = .next t' ∧ SameLive s' t'

/-! ### Runs -/

/-- R91: a poll phase with limit M whose M polls all fail ends in TIMEOUT after exactly M BusReads and M Delays; one whose poll k is
the first that is ready takes that answer after k BusReads and k - 1 Delays. That M is at most 65535, which the 16-bit ATTEMPT
can reach, is the model's inference, log entry 3. -/
def Obligations.PollPhaseIsBounded : Prop :=
  ∀ s : State, isPoll s.st = true → s.schedule = [] → s.attempt = 0 → pollLimit s ≠ 0 → pollLimit s ≤ 65535 →
    (nextNotReady s.params.readyMask (readSize s) (pollLimit s) s.answers = true →
      stepN (2 * pollLimit s) s = some { s with
        st := .respond, status := BitVec.ofInt 16 (-2), attempt := BitVec.ofNat 16 (pollLimit s),
        answers := s.answers.drop (pollLimit s),
        traffic := failedPolls s.params (readSize s) (pollLimit s) ++ s.traffic }) ∧
    (∀ (k : Nat) (a : Answer), k < pollLimit s →
      nextNotReady s.params.readyMask (readSize s) k s.answers = true → s.answers[k]? = some a →
      ready s.params.readyMask (readSize s) a = true →
      stepN (2 * k + 1) s = some (checkAnswer { s with
        attempt := BitVec.ofNat 16 k, answers := s.answers.drop (k + 1),
        traffic := .busRead s.params.devAddr (readSize s) :: (failedPolls s.params (readSize s) k ++ s.traffic),
        rxBuf := overlay (a.bytes.take (readSize s)) s.rxBuf } (a.bytes.take (readSize s))))

/-- R92: with TMO = 0 the response waits poll for as long as no answer is ready, any number of times, ATTEMPT unchanged, and
take the first ready answer; so they do when waits of any number stand between the block's moves. -/
def Obligations.ZeroTimeoutWaitsWithoutLimit : Prop :=
  ∀ (s : State) (k : Nat), s.st = .rrLenPoll ∨ s.st = .rrDataPoll → s.tmo = 0 →
    nextNotReady s.params.readyMask (readSize s) k s.answers = true →
    let waited := { s with
      answers := s.answers.drop k, traffic := failedPolls s.params (readSize s) k ++ s.traffic }
    let taken := fun a : Answer => checkAnswer { s with
        answers := s.answers.drop (k + 1),
        traffic := .busRead s.params.devAddr (readSize s) :: (failedPolls s.params (readSize s) k ++ s.traffic),
        rxBuf := overlay (a.bytes.take (readSize s)) s.rxBuf } (a.bytes.take (readSize s))
    (s.schedule = [] → stepN (2 * k) s = some waited ∧
      ∀ a : Answer, s.answers[k]? = some a → ready s.params.readyMask (readSize s) a = true →
        stepN (2 * k + 1) s = some (taken a)) ∧
    ∀ moves rest : List Move, s.schedule = moves ++ rest → onlyBlockAndWait moves = true →
      (moves.count .block = 2 * k → stepN moves.length s = some { waited with schedule := rest }) ∧
      ∀ a : Answer, s.answers[k]? = some a → ready s.params.readyMask (readSize s) a = true →
        moves.count .block = 2 * k + 1 → stepN moves.length s = some { taken a with schedule := rest }

/-- R81, R84, R85, R89, R99: WRITE_COMMAND stepped by the step table from WC_SEND ends in the very state in which SEND and WAIT_ACK
end, whatever the transport answers. -/
def Obligations.WriteCommandStepsFollowThePhases : Prop :=
  ∀ (fuel : Nat) (s t : State), s.st = .wcSend → s.schedule = [] → writeCommandPhases fuel s = some t →
    ∃ k, stepN k s = some t

/-- R81, R86, R87, R88, R89, R100: READ_RESPONSE stepped by the step table from RR_LEN_POLL ends in the very state in which
WAIT_LENGTH, REDELIVER and WAIT_DATA end, whatever the transport answers. -/
def Obligations.ReadResponseStepsFollowThePhases : Prop :=
  ∀ (fuel : Nat) (s t : State), s.st = .rrLenPoll → s.attempt = 0 → s.schedule = [] →
    readResponsePhases fuel s = some t → ∃ k, stepN k s = some t

/-- R90, R99, R100, R114: with a peer that answers each poll at once, a WRITE_COMMAND and a READ_RESPONSE run whole: STATUS 0 and then the
payload's length, the payload in OUT, and exactly five transactions on the transport. -/
def Obligations.WholeExchangeDeliversThePayload : Prop :=
  ∀ (s : State) (header body payload : List Byte) (cap : Byte) (tmo : Half) (sb : Byte) (a b : Answer),
    s.st = .idle → s.schedule = [] → 1 ≤ header.length → header.length + body.length ≤ 254 →
    payload.length ≤ 253 → payload.length ≤ cap.toNat → statusReady s.params.readyMask sb = true →
    s.requests = [requestOf (.writeCommand header body), requestOf (.readResponse cap tmo)] →
    let f := frameBuild 0xD5 (expectedCode (byteAt header 0) :: payload)
    s.answers = [a, ⟨true, sb :: ackBytes⟩, ⟨true, sb :: f.take 6⟩, b, ⟨true, sb :: f⟩] →
    ∃ t, stepN 9 s = some t ∧ t.st = .idle ∧ t.lastCmd = byteAt header 0 ∧
      t.responses = BitVec.ofNat 16 payload.length :: 0 :: s.responses ∧
      (∀ j < payload.length, outRead t.out j = some (byteAt payload j)) ∧
      (∀ j, payload.length ≤ j → outRead t.out j = outRead s.out j) ∧
      t.traffic = .busRead s.params.devAddr (payload.length + 10) :: .busWrite s.params.devAddr s.params.nack ::
        .busRead s.params.devAddr 7 :: .busRead s.params.devAddr 7 ::
        .busWrite s.params.devAddr (encodeFrame header body) :: s.traffic

/-- R102: READ_RESPONSE after WRITE_COMMAND X validates against (X + 1) mod 256, and after WRITE_COMMAND X and then WRITE_COMMAND Y
against (Y + 1) mod 256: a response with that code is accepted, and one with any other code, (X + 1) mod 256 in the second
case among them unless X = Y, is INVALID_FRAME with OUT untouched. -/
def Obligations.ResponseAnswersTheLatestCommand : Prop :=
  ∀ (s : State) (headerX bodyX headerY bodyY payload : List Byte) (code cap : Byte) (tmo : Half) (sb : Byte)
    (a b c : Answer),
    s.st = .idle → s.schedule = [] → 1 ≤ headerX.length → headerX.length + bodyX.length ≤ 254 →
    1 ≤ headerY.length → headerY.length + bodyY.length ≤ 254 → payload.length ≤ 253 → payload.length ≤ cap.toNat →
    statusReady s.params.readyMask sb = true →
    let f := frameBuild 0xD5 (code :: payload)
    (s.requests = [requestOf (.writeCommand headerX bodyX), requestOf (.readResponse cap tmo)] →
      s.answers = [a, ⟨true, sb :: ackBytes⟩, ⟨true, sb :: f.take 6⟩, c, ⟨true, sb :: f⟩] →
      ∃ t, stepN 9 s = some t ∧ t.st = .idle ∧ t.lastCmd = byteAt headerX 0 ∧
        (code = byteAt headerX 0 + 1 → t.responses = BitVec.ofNat 16 payload.length :: 0 :: s.responses ∧
          ∀ j < payload.length, outRead t.out j = some (byteAt payload j)) ∧
        (code ≠ byteAt headerX 0 + 1 → t.responses = BitVec.ofInt 16 (-3) :: 0 :: s.responses ∧ t.out = s.out)) ∧
    (s.requests = [requestOf (.writeCommand headerX bodyX), requestOf (.writeCommand headerY bodyY),
        requestOf (.readResponse cap tmo)] →
      s.answers =
        [a, ⟨true, sb :: ackBytes⟩, b, ⟨true, sb :: ackBytes⟩, ⟨true, sb :: f.take 6⟩, c, ⟨true, sb :: f⟩] →
      ∃ t, stepN 13 s = some t ∧ t.st = .idle ∧ t.lastCmd = byteAt headerY 0 ∧
        (code = byteAt headerY 0 + 1 → t.responses = BitVec.ofNat 16 payload.length :: 0 :: 0 :: s.responses ∧
          ∀ j < payload.length, outRead t.out j = some (byteAt payload j)) ∧
        (code ≠ byteAt headerY 0 + 1 → t.responses = BitVec.ofInt 16 (-3) :: 0 :: 0 :: s.responses ∧ t.out = s.out))

/-! ### Who moves -/

/-- R20, R131: a scheduled move of the block is its own move: it answers what a step with the schedule used up answers, with the
rest of the schedule kept. (That a schedule in State says who moves is the model's choice, log entry 9.) -/
def Obligations.ScheduledBlockMoveIsTheFreeMove : Prop :=
  ∀ (s : State) (rest : List Move), s.schedule = .block :: rest →
    (∀ t, step { s with schedule := [] } = .next t → step s = .next { t with schedule := rest }) ∧
    ∀ f, step { s with schedule := [] } = .fault f → step s = .fault f

/-- R20, R92, R131: in a named state waits change nothing but the schedule, however many they are. (A wait as a move of its own
is the model's choice, log entry 9. In an unused state every step is F_BAD_STATE, R110.) -/
def Obligations.WaitsChangeOnlyTheSchedule : Prop :=
  ∀ (n : Nat) (s : State) (rest : List Move), isNamed s.st = true → s.schedule = List.replicate n .wait ++ rest →
    stepN n s = some { s with schedule := rest }

/-- R79, R131: a request that is never answered leaves a block in a named state in that state for ever, after any number of
waits and whatever the schedule lists after. (The form of it, a move that is never used up, is the model's choice, log entry 9.
In an unused state every step is F_BAD_STATE, R110.) -/
def Obligations.UnansweredRequestIsStuck : Prop :=
  ∀ (n k : Nat) (s : State) (rest : List Move), isNamed s.st = true →
    s.schedule = List.replicate n .wait ++ .never :: rest →
    stepN (n + k) s = some { s with schedule := .never :: rest }

/-- R20, R92: reset apart, a state is left only by the block's own move, IDLE only by accepting a request, and with TMO = 0 a
response wait only by a ready answer of its poll. -/
def Obligations.StatesAreLeftOnlyByTheirAnswer : Prop :=
  ∀ s t : State, step s = .next t → s.schedule.head? ≠ some .reset →
    (t.st ≠ s.st → blockMoves s = true) ∧
    (s.st = .idle → t.st ≠ .idle → ∃ r, s.requests = r :: t.requests) ∧
    (inResponseWait s.st = true → s.tmo = 0 →
      t.st = pollOf s.st ∨ t.st = delayOf s.st ∨
      (isPoll s.st = true ∧ blockMoves s = true ∧ ready s.params.readyMask (readSize s) (nextAnswer s) = true))
end

