-- ==== Sys2Proof/Laws/State.lean ====
section
/-! SUPPORT. The fields of a state after each named update: one lemma for each field, so that no later proof unfolds a record
update. -/

namespace Sys2Proof.Machine

variable (s : State)

/-! ### respond -/

@[simp] theorem respond_st (v : Half) : (respond s v).st = .respond := rfl
@[simp] theorem respond_op (v : Half) : (respond s v).op = s.op := rfl
@[simp] theorem respond_hlen (v : Half) : (respond s v).hlen = s.hlen := rfl
@[simp] theorem respond_blen (v : Half) : (respond s v).blen = s.blen := rfl
@[simp] theorem respond_cap (v : Half) : (respond s v).cap = s.cap := rfl
@[simp] theorem respond_tmo (v : Half) : (respond s v).tmo = s.tmo := rfl
@[simp] theorem respond_attempt (v : Half) : (respond s v).attempt = s.attempt := rfl
@[simp] theorem respond_lenD (v : Half) : (respond s v).lenD = s.lenD := rfl
@[simp] theorem respond_status (v : Half) : (respond s v).status = v := rfl
@[simp] theorem respond_lastCmd (v : Half) : (respond s v).lastCmd = s.lastCmd := rfl
@[simp] theorem respond_lastCmdValid (v : Half) : (respond s v).lastCmdValid = s.lastCmdValid := rfl
@[simp] theorem respond_txBuf (v : Half) : (respond s v).txBuf = s.txBuf := rfl
@[simp] theorem respond_txLen (v : Half) : (respond s v).txLen = s.txLen := rfl
@[simp] theorem respond_rxBuf (v : Half) : (respond s v).rxBuf = s.rxBuf := rfl
@[simp] theorem respond_out (v : Half) : (respond s v).out = s.out := rfl
@[simp] theorem respond_outRaced (v : Half) : (respond s v).outRaced = s.outRaced := rfl
@[simp] theorem respond_params (v : Half) : (respond s v).params = s.params := rfl
@[simp] theorem respond_requests (v : Half) : (respond s v).requests = s.requests := rfl
@[simp] theorem respond_answers (v : Half) : (respond s v).answers = s.answers := rfl
@[simp] theorem respond_schedule (v : Half) : (respond s v).schedule = s.schedule := rfl
@[simp] theorem respond_traffic (v : Half) : (respond s v).traffic = s.traffic := rfl
@[simp] theorem respond_responses (v : Half) : (respond s v).responses = s.responses := rfl
@[simp] theorem respond_draws (v : Half) : (respond s v).draws = s.draws := rfl

/-! ### raise -/

@[simp] theorem raise_st (e : ErrorKind) : (raise s e).st = .respond := rfl
@[simp] theorem raise_op (e : ErrorKind) : (raise s e).op = s.op := rfl
@[simp] theorem raise_hlen (e : ErrorKind) : (raise s e).hlen = s.hlen := rfl
@[simp] theorem raise_blen (e : ErrorKind) : (raise s e).blen = s.blen := rfl
@[simp] theorem raise_cap (e : ErrorKind) : (raise s e).cap = s.cap := rfl
@[simp] theorem raise_tmo (e : ErrorKind) : (raise s e).tmo = s.tmo := rfl
@[simp] theorem raise_attempt (e : ErrorKind) : (raise s e).attempt = s.attempt := rfl
@[simp] theorem raise_lenD (e : ErrorKind) : (raise s e).lenD = s.lenD := rfl
@[simp] theorem raise_status (e : ErrorKind) : (raise s e).status = e.code := rfl
@[simp] theorem raise_lastCmd (e : ErrorKind) : (raise s e).lastCmd = s.lastCmd := rfl
@[simp] theorem raise_lastCmdValid (e : ErrorKind) : (raise s e).lastCmdValid = s.lastCmdValid := rfl
@[simp] theorem raise_txBuf (e : ErrorKind) : (raise s e).txBuf = s.txBuf := rfl
@[simp] theorem raise_txLen (e : ErrorKind) : (raise s e).txLen = s.txLen := rfl
@[simp] theorem raise_rxBuf (e : ErrorKind) : (raise s e).rxBuf = s.rxBuf := rfl
@[simp] theorem raise_out (e : ErrorKind) : (raise s e).out = s.out := rfl
@[simp] theorem raise_outRaced (e : ErrorKind) : (raise s e).outRaced = s.outRaced := rfl
@[simp] theorem raise_params (e : ErrorKind) : (raise s e).params = s.params := rfl
@[simp] theorem raise_requests (e : ErrorKind) : (raise s e).requests = s.requests := rfl
@[simp] theorem raise_answers (e : ErrorKind) : (raise s e).answers = s.answers := rfl
@[simp] theorem raise_schedule (e : ErrorKind) : (raise s e).schedule = s.schedule := rfl
@[simp] theorem raise_traffic (e : ErrorKind) : (raise s e).traffic = s.traffic := rfl
@[simp] theorem raise_responses (e : ErrorKind) : (raise s e).responses = s.responses := rfl
@[simp] theorem raise_draws (e : ErrorKind) : (raise s e).draws = s.draws := rfl

/-! ### finish -/

@[simp] theorem finish_st (n : Nat) : (finish s n).st = .respond := rfl
@[simp] theorem finish_op (n : Nat) : (finish s n).op = s.op := rfl
@[simp] theorem finish_hlen (n : Nat) : (finish s n).hlen = s.hlen := rfl
@[simp] theorem finish_blen (n : Nat) : (finish s n).blen = s.blen := rfl
@[simp] theorem finish_cap (n : Nat) : (finish s n).cap = s.cap := rfl
@[simp] theorem finish_tmo (n : Nat) : (finish s n).tmo = s.tmo := rfl
@[simp] theorem finish_attempt (n : Nat) : (finish s n).attempt = s.attempt := rfl
@[simp] theorem finish_lenD (n : Nat) : (finish s n).lenD = s.lenD := rfl
@[simp] theorem finish_status (n : Nat) : (finish s n).status = BitVec.ofNat 16 n := rfl
@[simp] theorem finish_lastCmd (n : Nat) : (finish s n).lastCmd = s.lastCmd := rfl
@[simp] theorem finish_lastCmdValid (n : Nat) : (finish s n).lastCmdValid = s.lastCmdValid := rfl
@[simp] theorem finish_txBuf (n : Nat) : (finish s n).txBuf = s.txBuf := rfl
@[simp] theorem finish_txLen (n : Nat) : (finish s n).txLen = s.txLen := rfl
@[simp] theorem finish_rxBuf (n : Nat) : (finish s n).rxBuf = s.rxBuf := rfl
@[simp] theorem finish_out (n : Nat) : (finish s n).out = s.out := rfl
@[simp] theorem finish_outRaced (n : Nat) : (finish s n).outRaced = s.outRaced := rfl
@[simp] theorem finish_params (n : Nat) : (finish s n).params = s.params := rfl
@[simp] theorem finish_requests (n : Nat) : (finish s n).requests = s.requests := rfl
@[simp] theorem finish_answers (n : Nat) : (finish s n).answers = s.answers := rfl
@[simp] theorem finish_schedule (n : Nat) : (finish s n).schedule = s.schedule := rfl
@[simp] theorem finish_traffic (n : Nat) : (finish s n).traffic = s.traffic := rfl
@[simp] theorem finish_responses (n : Nat) : (finish s n).responses = s.responses := rfl
@[simp] theorem finish_draws (n : Nat) : (finish s n).draws = s.draws := rfl

/-! ### takeResponse -/

@[simp] theorem takeResponse_st : (takeResponse s).st = .idle := rfl
@[simp] theorem takeResponse_op : (takeResponse s).op = s.op := rfl
@[simp] theorem takeResponse_hlen : (takeResponse s).hlen = s.hlen := rfl
@[simp] theorem takeResponse_blen : (takeResponse s).blen = s.blen := rfl
@[simp] theorem takeResponse_cap : (takeResponse s).cap = s.cap := rfl
@[simp] theorem takeResponse_tmo : (takeResponse s).tmo = s.tmo := rfl
@[simp] theorem takeResponse_attempt : (takeResponse s).attempt = s.attempt := rfl
@[simp] theorem takeResponse_lenD : (takeResponse s).lenD = s.lenD := rfl
@[simp] theorem takeResponse_status : (takeResponse s).status = s.status := rfl
@[simp] theorem takeResponse_lastCmd : (takeResponse s).lastCmd = s.lastCmd := rfl
@[simp] theorem takeResponse_lastCmdValid : (takeResponse s).lastCmdValid = s.lastCmdValid := rfl
@[simp] theorem takeResponse_txBuf : (takeResponse s).txBuf = s.txBuf := rfl
@[simp] theorem takeResponse_txLen : (takeResponse s).txLen = s.txLen := rfl
@[simp] theorem takeResponse_rxBuf : (takeResponse s).rxBuf = s.rxBuf := rfl
@[simp] theorem takeResponse_out : (takeResponse s).out = s.out := rfl
@[simp] theorem takeResponse_outRaced : (takeResponse s).outRaced = s.outRaced := rfl
@[simp] theorem takeResponse_params : (takeResponse s).params = s.params := rfl
@[simp] theorem takeResponse_requests : (takeResponse s).requests = s.requests := rfl
@[simp] theorem takeResponse_answers : (takeResponse s).answers = s.answers := rfl
@[simp] theorem takeResponse_schedule : (takeResponse s).schedule = s.schedule := rfl
@[simp] theorem takeResponse_traffic : (takeResponse s).traffic = s.traffic := rfl
@[simp] theorem takeResponse_responses : (takeResponse s).responses = s.status :: s.responses := rfl
@[simp] theorem takeResponse_draws : (takeResponse s).draws = s.draws := rfl

/-! ### issue -/

@[simp] theorem issue_st (t : Txn) : (issue s t).st = s.st := rfl
@[simp] theorem issue_op (t : Txn) : (issue s t).op = s.op := rfl
@[simp] theorem issue_hlen (t : Txn) : (issue s t).hlen = s.hlen := rfl
@[simp] theorem issue_blen (t : Txn) : (issue s t).blen = s.blen := rfl
@[simp] theorem issue_cap (t : Txn) : (issue s t).cap = s.cap := rfl
@[simp] theorem issue_tmo (t : Txn) : (issue s t).tmo = s.tmo := rfl
@[simp] theorem issue_attempt (t : Txn) : (issue s t).attempt = s.attempt := rfl
@[simp] theorem issue_lenD (t : Txn) : (issue s t).lenD = s.lenD := rfl
@[simp] theorem issue_status (t : Txn) : (issue s t).status = s.status := rfl
@[simp] theorem issue_lastCmd (t : Txn) : (issue s t).lastCmd = s.lastCmd := rfl
@[simp] theorem issue_lastCmdValid (t : Txn) : (issue s t).lastCmdValid = s.lastCmdValid := rfl
@[simp] theorem issue_txBuf (t : Txn) : (issue s t).txBuf = s.txBuf := rfl
@[simp] theorem issue_txLen (t : Txn) : (issue s t).txLen = s.txLen := rfl
@[simp] theorem issue_rxBuf (t : Txn) : (issue s t).rxBuf = s.rxBuf := rfl
@[simp] theorem issue_out (t : Txn) : (issue s t).out = s.out := rfl
@[simp] theorem issue_outRaced (t : Txn) : (issue s t).outRaced = s.outRaced := rfl
@[simp] theorem issue_params (t : Txn) : (issue s t).params = s.params := rfl
@[simp] theorem issue_requests (t : Txn) : (issue s t).requests = s.requests := rfl
@[simp] theorem issue_answers (t : Txn) : (issue s t).answers = s.answers := rfl
@[simp] theorem issue_schedule (t : Txn) : (issue s t).schedule = s.schedule := rfl
@[simp] theorem issue_traffic (t : Txn) : (issue s t).traffic = t :: s.traffic := rfl
@[simp] theorem issue_responses (t : Txn) : (issue s t).responses = s.responses := rfl
@[simp] theorem issue_draws (t : Txn) : (issue s t).draws = s.draws := rfl

/-! ### delay -/

@[simp] theorem delay_st : (delay s).st = s.st := rfl
@[simp] theorem delay_op : (delay s).op = s.op := rfl
@[simp] theorem delay_hlen : (delay s).hlen = s.hlen := rfl
@[simp] theorem delay_blen : (delay s).blen = s.blen := rfl
@[simp] theorem delay_cap : (delay s).cap = s.cap := rfl
@[simp] theorem delay_tmo : (delay s).tmo = s.tmo := rfl
@[simp] theorem delay_attempt : (delay s).attempt = s.attempt := rfl
@[simp] theorem delay_lenD : (delay s).lenD = s.lenD := rfl
@[simp] theorem delay_status : (delay s).status = s.status := rfl
@[simp] theorem delay_lastCmd : (delay s).lastCmd = s.lastCmd := rfl
@[simp] theorem delay_lastCmdValid : (delay s).lastCmdValid = s.lastCmdValid := rfl
@[simp] theorem delay_txBuf : (delay s).txBuf = s.txBuf := rfl
@[simp] theorem delay_txLen : (delay s).txLen = s.txLen := rfl
@[simp] theorem delay_rxBuf : (delay s).rxBuf = s.rxBuf := rfl
@[simp] theorem delay_out : (delay s).out = s.out := rfl
@[simp] theorem delay_outRaced : (delay s).outRaced = s.outRaced := rfl
@[simp] theorem delay_params : (delay s).params = s.params := rfl
@[simp] theorem delay_requests : (delay s).requests = s.requests := rfl
@[simp] theorem delay_answers : (delay s).answers = s.answers := rfl
@[simp] theorem delay_schedule : (delay s).schedule = s.schedule := rfl
@[simp] theorem delay_traffic : (delay s).traffic = .delay s.params.pollMs :: s.traffic := rfl
@[simp] theorem delay_responses : (delay s).responses = s.responses := rfl
@[simp] theorem delay_draws : (delay s).draws = s.draws := rfl

/-! ### latchTx -/

@[simp] theorem latchTx_st (f : List Byte) : (latchTx s f).st = s.st := rfl
@[simp] theorem latchTx_op (f : List Byte) : (latchTx s f).op = s.op := rfl
@[simp] theorem latchTx_hlen (f : List Byte) : (latchTx s f).hlen = s.hlen := rfl
@[simp] theorem latchTx_blen (f : List Byte) : (latchTx s f).blen = s.blen := rfl
@[simp] theorem latchTx_cap (f : List Byte) : (latchTx s f).cap = s.cap := rfl
@[simp] theorem latchTx_tmo (f : List Byte) : (latchTx s f).tmo = s.tmo := rfl
@[simp] theorem latchTx_attempt (f : List Byte) : (latchTx s f).attempt = s.attempt := rfl
@[simp] theorem latchTx_lenD (f : List Byte) : (latchTx s f).lenD = s.lenD := rfl
@[simp] theorem latchTx_status (f : List Byte) : (latchTx s f).status = s.status := rfl
@[simp] theorem latchTx_lastCmd (f : List Byte) : (latchTx s f).lastCmd = s.lastCmd := rfl
@[simp] theorem latchTx_lastCmdValid (f : List Byte) : (latchTx s f).lastCmdValid = s.lastCmdValid := rfl
@[simp] theorem latchTx_txBuf (f : List Byte) : (latchTx s f).txBuf = overlay f s.txBuf := rfl
@[simp] theorem latchTx_txLen (f : List Byte) : (latchTx s f).txLen = BitVec.ofNat 9 f.length := rfl
@[simp] theorem latchTx_rxBuf (f : List Byte) : (latchTx s f).rxBuf = s.rxBuf := rfl
@[simp] theorem latchTx_out (f : List Byte) : (latchTx s f).out = s.out := rfl
@[simp] theorem latchTx_outRaced (f : List Byte) : (latchTx s f).outRaced = s.outRaced := rfl
@[simp] theorem latchTx_params (f : List Byte) : (latchTx s f).params = s.params := rfl
@[simp] theorem latchTx_requests (f : List Byte) : (latchTx s f).requests = s.requests := rfl
@[simp] theorem latchTx_answers (f : List Byte) : (latchTx s f).answers = s.answers := rfl
@[simp] theorem latchTx_schedule (f : List Byte) : (latchTx s f).schedule = s.schedule := rfl
@[simp] theorem latchTx_traffic (f : List Byte) : (latchTx s f).traffic = s.traffic := rfl
@[simp] theorem latchTx_responses (f : List Byte) : (latchTx s f).responses = s.responses := rfl
@[simp] theorem latchTx_draws (f : List Byte) : (latchTx s f).draws = s.draws := rfl

/-! ### latchRx -/

@[simp] theorem latchRx_st (r : List Byte) : (latchRx s r).st = s.st := rfl
@[simp] theorem latchRx_op (r : List Byte) : (latchRx s r).op = s.op := rfl
@[simp] theorem latchRx_hlen (r : List Byte) : (latchRx s r).hlen = s.hlen := rfl
@[simp] theorem latchRx_blen (r : List Byte) : (latchRx s r).blen = s.blen := rfl
@[simp] theorem latchRx_cap (r : List Byte) : (latchRx s r).cap = s.cap := rfl
@[simp] theorem latchRx_tmo (r : List Byte) : (latchRx s r).tmo = s.tmo := rfl
@[simp] theorem latchRx_attempt (r : List Byte) : (latchRx s r).attempt = s.attempt := rfl
@[simp] theorem latchRx_lenD (r : List Byte) : (latchRx s r).lenD = s.lenD := rfl
@[simp] theorem latchRx_status (r : List Byte) : (latchRx s r).status = s.status := rfl
@[simp] theorem latchRx_lastCmd (r : List Byte) : (latchRx s r).lastCmd = s.lastCmd := rfl
@[simp] theorem latchRx_lastCmdValid (r : List Byte) : (latchRx s r).lastCmdValid = s.lastCmdValid := rfl
@[simp] theorem latchRx_txBuf (r : List Byte) : (latchRx s r).txBuf = s.txBuf := rfl
@[simp] theorem latchRx_txLen (r : List Byte) : (latchRx s r).txLen = s.txLen := rfl
@[simp] theorem latchRx_rxBuf (r : List Byte) : (latchRx s r).rxBuf = overlay r s.rxBuf := rfl
@[simp] theorem latchRx_out (r : List Byte) : (latchRx s r).out = s.out := rfl
@[simp] theorem latchRx_outRaced (r : List Byte) : (latchRx s r).outRaced = s.outRaced := rfl
@[simp] theorem latchRx_params (r : List Byte) : (latchRx s r).params = s.params := rfl
@[simp] theorem latchRx_requests (r : List Byte) : (latchRx s r).requests = s.requests := rfl
@[simp] theorem latchRx_answers (r : List Byte) : (latchRx s r).answers = s.answers := rfl
@[simp] theorem latchRx_schedule (r : List Byte) : (latchRx s r).schedule = s.schedule := rfl
@[simp] theorem latchRx_traffic (r : List Byte) : (latchRx s r).traffic = s.traffic := rfl
@[simp] theorem latchRx_responses (r : List Byte) : (latchRx s r).responses = s.responses := rfl
@[simp] theorem latchRx_draws (r : List Byte) : (latchRx s r).draws = s.draws := rfl

/-! ### outUnspecified -/

@[simp] theorem outUnspecified_st (n : Nat) : (outUnspecified s n).st = s.st := rfl
@[simp] theorem outUnspecified_op (n : Nat) : (outUnspecified s n).op = s.op := rfl
@[simp] theorem outUnspecified_hlen (n : Nat) : (outUnspecified s n).hlen = s.hlen := rfl
@[simp] theorem outUnspecified_blen (n : Nat) : (outUnspecified s n).blen = s.blen := rfl
@[simp] theorem outUnspecified_cap (n : Nat) : (outUnspecified s n).cap = s.cap := rfl
@[simp] theorem outUnspecified_tmo (n : Nat) : (outUnspecified s n).tmo = s.tmo := rfl
@[simp] theorem outUnspecified_attempt (n : Nat) : (outUnspecified s n).attempt = s.attempt := rfl
@[simp] theorem outUnspecified_lenD (n : Nat) : (outUnspecified s n).lenD = s.lenD := rfl
@[simp] theorem outUnspecified_status (n : Nat) : (outUnspecified s n).status = s.status := rfl
@[simp] theorem outUnspecified_lastCmd (n : Nat) : (outUnspecified s n).lastCmd = s.lastCmd := rfl
@[simp] theorem outUnspecified_lastCmdValid (n : Nat) : (outUnspecified s n).lastCmdValid = s.lastCmdValid := rfl
@[simp] theorem outUnspecified_txBuf (n : Nat) : (outUnspecified s n).txBuf = s.txBuf := rfl
@[simp] theorem outUnspecified_txLen (n : Nat) : (outUnspecified s n).txLen = s.txLen := rfl
@[simp] theorem outUnspecified_rxBuf (n : Nat) : (outUnspecified s n).rxBuf = s.rxBuf := rfl
@[simp] theorem outUnspecified_out (n : Nat) : (outUnspecified s n).out = outFill s.out 0 (freeBytes s.draws n) := rfl
@[simp] theorem outUnspecified_outRaced (n : Nat) : (outUnspecified s n).outRaced = s.outRaced := rfl
@[simp] theorem outUnspecified_params (n : Nat) : (outUnspecified s n).params = s.params := rfl
@[simp] theorem outUnspecified_requests (n : Nat) : (outUnspecified s n).requests = s.requests := rfl
@[simp] theorem outUnspecified_answers (n : Nat) : (outUnspecified s n).answers = s.answers := rfl
@[simp] theorem outUnspecified_schedule (n : Nat) : (outUnspecified s n).schedule = s.schedule := rfl
@[simp] theorem outUnspecified_traffic (n : Nat) : (outUnspecified s n).traffic = s.traffic := rfl
@[simp] theorem outUnspecified_responses (n : Nat) : (outUnspecified s n).responses = s.responses := rfl
@[simp] theorem outUnspecified_draws (n : Nat) : (outUnspecified s n).draws = s.draws + n := rfl

/-! ### loseOut -/

@[simp] theorem loseOut_st : (loseOut s).st = s.st := outUnspecified_st s 255
@[simp] theorem loseOut_op : (loseOut s).op = s.op := outUnspecified_op s 255
@[simp] theorem loseOut_hlen : (loseOut s).hlen = s.hlen := outUnspecified_hlen s 255
@[simp] theorem loseOut_blen : (loseOut s).blen = s.blen := outUnspecified_blen s 255
@[simp] theorem loseOut_cap : (loseOut s).cap = s.cap := outUnspecified_cap s 255
@[simp] theorem loseOut_tmo : (loseOut s).tmo = s.tmo := outUnspecified_tmo s 255
@[simp] theorem loseOut_attempt : (loseOut s).attempt = s.attempt := outUnspecified_attempt s 255
@[simp] theorem loseOut_lenD : (loseOut s).lenD = s.lenD := outUnspecified_lenD s 255
@[simp] theorem loseOut_status : (loseOut s).status = s.status := outUnspecified_status s 255
@[simp] theorem loseOut_lastCmd : (loseOut s).lastCmd = s.lastCmd := outUnspecified_lastCmd s 255
@[simp] theorem loseOut_lastCmdValid : (loseOut s).lastCmdValid = s.lastCmdValid := outUnspecified_lastCmdValid s 255
@[simp] theorem loseOut_txBuf : (loseOut s).txBuf = s.txBuf := outUnspecified_txBuf s 255
@[simp] theorem loseOut_txLen : (loseOut s).txLen = s.txLen := outUnspecified_txLen s 255
@[simp] theorem loseOut_rxBuf : (loseOut s).rxBuf = s.rxBuf := outUnspecified_rxBuf s 255
@[simp] theorem loseOut_out : (loseOut s).out = outFill s.out 0 (freeBytes s.draws 255) := outUnspecified_out s 255
@[simp] theorem loseOut_outRaced : (loseOut s).outRaced = s.outRaced := outUnspecified_outRaced s 255
@[simp] theorem loseOut_params : (loseOut s).params = s.params := outUnspecified_params s 255
@[simp] theorem loseOut_requests : (loseOut s).requests = s.requests := outUnspecified_requests s 255
@[simp] theorem loseOut_answers : (loseOut s).answers = s.answers := outUnspecified_answers s 255
@[simp] theorem loseOut_schedule : (loseOut s).schedule = s.schedule := outUnspecified_schedule s 255
@[simp] theorem loseOut_traffic : (loseOut s).traffic = s.traffic := outUnspecified_traffic s 255
@[simp] theorem loseOut_responses : (loseOut s).responses = s.responses := outUnspecified_responses s 255
@[simp] theorem loseOut_draws : (loseOut s).draws = s.draws + 255 := outUnspecified_draws s 255

/-! ### notReady -/

@[simp] theorem notReady_st : (notReady s).st = delayOf s.st := rfl
@[simp] theorem notReady_op : (notReady s).op = s.op := rfl
@[simp] theorem notReady_hlen : (notReady s).hlen = s.hlen := rfl
@[simp] theorem notReady_blen : (notReady s).blen = s.blen := rfl
@[simp] theorem notReady_cap : (notReady s).cap = s.cap := rfl
@[simp] theorem notReady_tmo : (notReady s).tmo = s.tmo := rfl
@[simp] theorem notReady_attempt : (notReady s).attempt = s.attempt := rfl
@[simp] theorem notReady_lenD : (notReady s).lenD = s.lenD := rfl
@[simp] theorem notReady_status : (notReady s).status = s.status := rfl
@[simp] theorem notReady_lastCmd : (notReady s).lastCmd = s.lastCmd := rfl
@[simp] theorem notReady_lastCmdValid : (notReady s).lastCmdValid = s.lastCmdValid := rfl
@[simp] theorem notReady_txBuf : (notReady s).txBuf = s.txBuf := rfl
@[simp] theorem notReady_txLen : (notReady s).txLen = s.txLen := rfl
@[simp] theorem notReady_rxBuf : (notReady s).rxBuf = s.rxBuf := rfl
@[simp] theorem notReady_out : (notReady s).out = s.out := rfl
@[simp] theorem notReady_outRaced : (notReady s).outRaced = s.outRaced := rfl
@[simp] theorem notReady_params : (notReady s).params = s.params := rfl
@[simp] theorem notReady_requests : (notReady s).requests = s.requests := rfl
@[simp] theorem notReady_answers : (notReady s).answers = s.answers := rfl
@[simp] theorem notReady_schedule : (notReady s).schedule = s.schedule := rfl
@[simp] theorem notReady_traffic : (notReady s).traffic = s.traffic := rfl
@[simp] theorem notReady_responses : (notReady s).responses = s.responses := rfl
@[simp] theorem notReady_draws : (notReady s).draws = s.draws := rfl

/-! ### refuseReserved -/

@[simp] theorem refuseReserved_st (o : Byte) : (refuseReserved s o).st = .respond := rfl
@[simp] theorem refuseReserved_op (o : Byte) : (refuseReserved s o).op = o := rfl
@[simp] theorem refuseReserved_hlen (o : Byte) : (refuseReserved s o).hlen = s.hlen := rfl
@[simp] theorem refuseReserved_blen (o : Byte) : (refuseReserved s o).blen = s.blen := rfl
@[simp] theorem refuseReserved_cap (o : Byte) : (refuseReserved s o).cap = s.cap := rfl
@[simp] theorem refuseReserved_tmo (o : Byte) : (refuseReserved s o).tmo = s.tmo := rfl
@[simp] theorem refuseReserved_attempt (o : Byte) : (refuseReserved s o).attempt = s.attempt := rfl
@[simp] theorem refuseReserved_lenD (o : Byte) : (refuseReserved s o).lenD = s.lenD := rfl
@[simp] theorem refuseReserved_status (o : Byte) : (refuseReserved s o).status = ErrorKind.requestError.code := rfl
@[simp] theorem refuseReserved_lastCmd (o : Byte) : (refuseReserved s o).lastCmd = s.lastCmd := rfl
@[simp] theorem refuseReserved_lastCmdValid (o : Byte) : (refuseReserved s o).lastCmdValid = s.lastCmdValid := rfl
@[simp] theorem refuseReserved_txBuf (o : Byte) : (refuseReserved s o).txBuf = s.txBuf := rfl
@[simp] theorem refuseReserved_txLen (o : Byte) : (refuseReserved s o).txLen = s.txLen := rfl
@[simp] theorem refuseReserved_rxBuf (o : Byte) : (refuseReserved s o).rxBuf = s.rxBuf := rfl
@[simp] theorem refuseReserved_out (o : Byte) : (refuseReserved s o).out = s.out := rfl
@[simp] theorem refuseReserved_outRaced (o : Byte) : (refuseReserved s o).outRaced = s.outRaced := rfl
@[simp] theorem refuseReserved_params (o : Byte) : (refuseReserved s o).params = s.params := rfl
@[simp] theorem refuseReserved_requests (o : Byte) : (refuseReserved s o).requests = s.requests := rfl
@[simp] theorem refuseReserved_answers (o : Byte) : (refuseReserved s o).answers = s.answers := rfl
@[simp] theorem refuseReserved_schedule (o : Byte) : (refuseReserved s o).schedule = s.schedule := rfl
@[simp] theorem refuseReserved_traffic (o : Byte) : (refuseReserved s o).traffic = s.traffic := rfl
@[simp] theorem refuseReserved_responses (o : Byte) : (refuseReserved s o).responses = s.responses := rfl
@[simp] theorem refuseReserved_draws (o : Byte) : (refuseReserved s o).draws = s.draws := rfl

/-! ### dropAnswer: a scripted answer is used up, or one more free answer is drawn -/

theorem dropAnswer_eq : dropAnswer s =
    { s with answers := s.answers.tail, draws := s.draws + freeAnswersDrawn s.answers } := by
  rcases s with ⟨⟩
  unfold dropAnswer
  split <;> simp_all [freeAnswersDrawn]

@[simp] theorem dropAnswer_st : (dropAnswer s).st = s.st := by rw [dropAnswer_eq]
@[simp] theorem dropAnswer_op : (dropAnswer s).op = s.op := by rw [dropAnswer_eq]
@[simp] theorem dropAnswer_hlen : (dropAnswer s).hlen = s.hlen := by rw [dropAnswer_eq]
@[simp] theorem dropAnswer_blen : (dropAnswer s).blen = s.blen := by rw [dropAnswer_eq]
@[simp] theorem dropAnswer_cap : (dropAnswer s).cap = s.cap := by rw [dropAnswer_eq]
@[simp] theorem dropAnswer_tmo : (dropAnswer s).tmo = s.tmo := by rw [dropAnswer_eq]
@[simp] theorem dropAnswer_attempt : (dropAnswer s).attempt = s.attempt := by rw [dropAnswer_eq]
@[simp] theorem dropAnswer_lenD : (dropAnswer s).lenD = s.lenD := by rw [dropAnswer_eq]
@[simp] theorem dropAnswer_status : (dropAnswer s).status = s.status := by rw [dropAnswer_eq]
@[simp] theorem dropAnswer_lastCmd : (dropAnswer s).lastCmd = s.lastCmd := by rw [dropAnswer_eq]
@[simp] theorem dropAnswer_lastCmdValid : (dropAnswer s).lastCmdValid = s.lastCmdValid := by rw [dropAnswer_eq]
@[simp] theorem dropAnswer_txBuf : (dropAnswer s).txBuf = s.txBuf := by rw [dropAnswer_eq]
@[simp] theorem dropAnswer_txLen : (dropAnswer s).txLen = s.txLen := by rw [dropAnswer_eq]
@[simp] theorem dropAnswer_rxBuf : (dropAnswer s).rxBuf = s.rxBuf := by rw [dropAnswer_eq]
@[simp] theorem dropAnswer_out : (dropAnswer s).out = s.out := by rw [dropAnswer_eq]
@[simp] theorem dropAnswer_outRaced : (dropAnswer s).outRaced = s.outRaced := by rw [dropAnswer_eq]
@[simp] theorem dropAnswer_params : (dropAnswer s).params = s.params := by rw [dropAnswer_eq]
@[simp] theorem dropAnswer_requests : (dropAnswer s).requests = s.requests := by rw [dropAnswer_eq]
@[simp] theorem dropAnswer_answers : (dropAnswer s).answers = s.answers.tail := by rw [dropAnswer_eq]
@[simp] theorem dropAnswer_schedule : (dropAnswer s).schedule = s.schedule := by rw [dropAnswer_eq]
@[simp] theorem dropAnswer_traffic : (dropAnswer s).traffic = s.traffic := by rw [dropAnswer_eq]
@[simp] theorem dropAnswer_responses : (dropAnswer s).responses = s.responses := by rw [dropAnswer_eq]
@[simp] theorem dropAnswer_draws : (dropAnswer s).draws = s.draws + freeAnswersDrawn s.answers := by rw [dropAnswer_eq]

/-! ### busWrite -/

@[simp] theorem busWrite_st (bytes : List Byte) : (busWrite s bytes).st = s.st := by simp [busWrite]
@[simp] theorem busWrite_op (bytes : List Byte) : (busWrite s bytes).op = s.op := by simp [busWrite]
@[simp] theorem busWrite_hlen (bytes : List Byte) : (busWrite s bytes).hlen = s.hlen := by simp [busWrite]
@[simp] theorem busWrite_blen (bytes : List Byte) : (busWrite s bytes).blen = s.blen := by simp [busWrite]
@[simp] theorem busWrite_cap (bytes : List Byte) : (busWrite s bytes).cap = s.cap := by simp [busWrite]
@[simp] theorem busWrite_tmo (bytes : List Byte) : (busWrite s bytes).tmo = s.tmo := by simp [busWrite]
@[simp] theorem busWrite_attempt (bytes : List Byte) : (busWrite s bytes).attempt = s.attempt := by simp [busWrite]
@[simp] theorem busWrite_lenD (bytes : List Byte) : (busWrite s bytes).lenD = s.lenD := by simp [busWrite]
@[simp] theorem busWrite_status (bytes : List Byte) : (busWrite s bytes).status = s.status := by simp [busWrite]
@[simp] theorem busWrite_lastCmd (bytes : List Byte) : (busWrite s bytes).lastCmd = s.lastCmd := by simp [busWrite]
@[simp] theorem busWrite_lastCmdValid (bytes : List Byte) : (busWrite s bytes).lastCmdValid = s.lastCmdValid := by simp [busWrite]
@[simp] theorem busWrite_txBuf (bytes : List Byte) : (busWrite s bytes).txBuf = s.txBuf := by simp [busWrite]
@[simp] theorem busWrite_txLen (bytes : List Byte) : (busWrite s bytes).txLen = s.txLen := by simp [busWrite]
@[simp] theorem busWrite_rxBuf (bytes : List Byte) : (busWrite s bytes).rxBuf = s.rxBuf := by simp [busWrite]
@[simp] theorem busWrite_out (bytes : List Byte) : (busWrite s bytes).out = s.out := by simp [busWrite]
@[simp] theorem busWrite_outRaced (bytes : List Byte) : (busWrite s bytes).outRaced = s.outRaced := by simp [busWrite]
@[simp] theorem busWrite_params (bytes : List Byte) : (busWrite s bytes).params = s.params := by simp [busWrite]
@[simp] theorem busWrite_requests (bytes : List Byte) : (busWrite s bytes).requests = s.requests := by simp [busWrite]
@[simp] theorem busWrite_answers (bytes : List Byte) : (busWrite s bytes).answers = s.answers.tail := by simp [busWrite]
@[simp] theorem busWrite_schedule (bytes : List Byte) : (busWrite s bytes).schedule = s.schedule := by simp [busWrite]
@[simp] theorem busWrite_traffic (bytes : List Byte) : (busWrite s bytes).traffic = .busWrite s.params.devAddr bytes :: s.traffic := by simp [busWrite]
@[simp] theorem busWrite_responses (bytes : List Byte) : (busWrite s bytes).responses = s.responses := by simp [busWrite]
@[simp] theorem busWrite_draws (bytes : List Byte) : (busWrite s bytes).draws = s.draws + freeAnswersDrawn s.answers := by simp [busWrite]

/-! ### busRead -/

@[simp] theorem busRead_st (n : Nat) : (busRead s n).st = s.st := by simp [busRead]
@[simp] theorem busRead_op (n : Nat) : (busRead s n).op = s.op := by simp [busRead]
@[simp] theorem busRead_hlen (n : Nat) : (busRead s n).hlen = s.hlen := by simp [busRead]
@[simp] theorem busRead_blen (n : Nat) : (busRead s n).blen = s.blen := by simp [busRead]
@[simp] theorem busRead_cap (n : Nat) : (busRead s n).cap = s.cap := by simp [busRead]
@[simp] theorem busRead_tmo (n : Nat) : (busRead s n).tmo = s.tmo := by simp [busRead]
@[simp] theorem busRead_attempt (n : Nat) : (busRead s n).attempt = s.attempt := by simp [busRead]
@[simp] theorem busRead_lenD (n : Nat) : (busRead s n).lenD = s.lenD := by simp [busRead]
@[simp] theorem busRead_status (n : Nat) : (busRead s n).status = s.status := by simp [busRead]
@[simp] theorem busRead_lastCmd (n : Nat) : (busRead s n).lastCmd = s.lastCmd := by simp [busRead]
@[simp] theorem busRead_lastCmdValid (n : Nat) : (busRead s n).lastCmdValid = s.lastCmdValid := by simp [busRead]
@[simp] theorem busRead_txBuf (n : Nat) : (busRead s n).txBuf = s.txBuf := by simp [busRead]
@[simp] theorem busRead_txLen (n : Nat) : (busRead s n).txLen = s.txLen := by simp [busRead]
@[simp] theorem busRead_rxBuf (n : Nat) : (busRead s n).rxBuf = s.rxBuf := by simp [busRead]
@[simp] theorem busRead_out (n : Nat) : (busRead s n).out = s.out := by simp [busRead]
@[simp] theorem busRead_outRaced (n : Nat) : (busRead s n).outRaced = s.outRaced := by simp [busRead]
@[simp] theorem busRead_params (n : Nat) : (busRead s n).params = s.params := by simp [busRead]
@[simp] theorem busRead_requests (n : Nat) : (busRead s n).requests = s.requests := by simp [busRead]
@[simp] theorem busRead_answers (n : Nat) : (busRead s n).answers = s.answers.tail := by simp [busRead]
@[simp] theorem busRead_schedule (n : Nat) : (busRead s n).schedule = s.schedule := by simp [busRead]
@[simp] theorem busRead_traffic (n : Nat) : (busRead s n).traffic = .busRead s.params.devAddr n :: s.traffic := by simp [busRead]
@[simp] theorem busRead_responses (n : Nat) : (busRead s n).responses = s.responses := by simp [busRead]
@[simp] theorem busRead_draws (n : Nat) : (busRead s n).draws = s.draws + freeAnswersDrawn s.answers := by simp [busRead]

/-! ### outStore: only OUT and the draw counter change -/

@[simp] theorem outStore_st (p : List Byte) : (outStore s p).st = s.st := by unfold outStore; split <;> rfl
@[simp] theorem outStore_op (p : List Byte) : (outStore s p).op = s.op := by unfold outStore; split <;> rfl
@[simp] theorem outStore_hlen (p : List Byte) : (outStore s p).hlen = s.hlen := by unfold outStore; split <;> rfl
@[simp] theorem outStore_blen (p : List Byte) : (outStore s p).blen = s.blen := by unfold outStore; split <;> rfl
@[simp] theorem outStore_cap (p : List Byte) : (outStore s p).cap = s.cap := by unfold outStore; split <;> rfl
@[simp] theorem outStore_tmo (p : List Byte) : (outStore s p).tmo = s.tmo := by unfold outStore; split <;> rfl
@[simp] theorem outStore_attempt (p : List Byte) : (outStore s p).attempt = s.attempt := by unfold outStore; split <;> rfl
@[simp] theorem outStore_lenD (p : List Byte) : (outStore s p).lenD = s.lenD := by unfold outStore; split <;> rfl
@[simp] theorem outStore_status (p : List Byte) : (outStore s p).status = s.status := by unfold outStore; split <;> rfl
@[simp] theorem outStore_lastCmd (p : List Byte) : (outStore s p).lastCmd = s.lastCmd := by unfold outStore; split <;> rfl
@[simp] theorem outStore_lastCmdValid (p : List Byte) : (outStore s p).lastCmdValid = s.lastCmdValid := by unfold outStore; split <;> rfl
@[simp] theorem outStore_txBuf (p : List Byte) : (outStore s p).txBuf = s.txBuf := by unfold outStore; split <;> rfl
@[simp] theorem outStore_txLen (p : List Byte) : (outStore s p).txLen = s.txLen := by unfold outStore; split <;> rfl
@[simp] theorem outStore_rxBuf (p : List Byte) : (outStore s p).rxBuf = s.rxBuf := by unfold outStore; split <;> rfl
@[simp] theorem outStore_outRaced (p : List Byte) : (outStore s p).outRaced = s.outRaced := by unfold outStore; split <;> rfl
@[simp] theorem outStore_params (p : List Byte) : (outStore s p).params = s.params := by unfold outStore; split <;> rfl
@[simp] theorem outStore_requests (p : List Byte) : (outStore s p).requests = s.requests := by unfold outStore; split <;> rfl
@[simp] theorem outStore_answers (p : List Byte) : (outStore s p).answers = s.answers := by unfold outStore; split <;> rfl
@[simp] theorem outStore_schedule (p : List Byte) : (outStore s p).schedule = s.schedule := by unfold outStore; split <;> rfl
@[simp] theorem outStore_traffic (p : List Byte) : (outStore s p).traffic = s.traffic := by unfold outStore; split <;> rfl
@[simp] theorem outStore_responses (p : List Byte) : (outStore s p).responses = s.responses := by unfold outStore; split <;> rfl

/-! ### resetRegisters -/

@[simp] theorem resetRegisters_st : (resetRegisters s).st = .idle := rfl
@[simp] theorem resetRegisters_op : (resetRegisters s).op = Config.freeByte s.draws := rfl
@[simp] theorem resetRegisters_hlen : (resetRegisters s).hlen = Config.freeByte (s.draws + 1) := rfl
@[simp] theorem resetRegisters_blen : (resetRegisters s).blen = Config.freeByte (s.draws + 2) := rfl
@[simp] theorem resetRegisters_cap : (resetRegisters s).cap = Config.freeByte (s.draws + 3) := rfl
@[simp] theorem resetRegisters_tmo : (resetRegisters s).tmo = Config.freeHalf s.draws := rfl
@[simp] theorem resetRegisters_attempt : (resetRegisters s).attempt = Config.freeHalf (s.draws + 1) := rfl
@[simp] theorem resetRegisters_lenD : (resetRegisters s).lenD = Config.freeByte (s.draws + 4) := rfl
@[simp] theorem resetRegisters_status : (resetRegisters s).status = Config.freeHalf (s.draws + 2) := rfl
@[simp] theorem resetRegisters_lastCmd : (resetRegisters s).lastCmd = Config.freeByte (s.draws + 5) := rfl
@[simp] theorem resetRegisters_lastCmdValid : (resetRegisters s).lastCmdValid = false := rfl
@[simp] theorem resetRegisters_txBuf : (resetRegisters s).txBuf = freeBytes (s.draws + 6) 262 := rfl
@[simp] theorem resetRegisters_txLen :
    (resetRegisters s).txLen = BitVec.ofNat 9 ((Config.freeHalf (s.draws + 3)).toNat % 263) := rfl
@[simp] theorem resetRegisters_rxBuf : (resetRegisters s).rxBuf = freeBytes (s.draws + 268) 263 := rfl
@[simp] theorem resetRegisters_out : (resetRegisters s).out = s.out := rfl
@[simp] theorem resetRegisters_outRaced : (resetRegisters s).outRaced = s.outRaced := rfl
@[simp] theorem resetRegisters_params : (resetRegisters s).params = s.params := rfl
@[simp] theorem resetRegisters_requests : (resetRegisters s).requests = s.requests := rfl
@[simp] theorem resetRegisters_answers :
    (resetRegisters s).answers = if awaitsAnswer s.st then s.answers.tail else s.answers := rfl
@[simp] theorem resetRegisters_schedule : (resetRegisters s).schedule = s.schedule := rfl
@[simp] theorem resetRegisters_traffic : (resetRegisters s).traffic = s.traffic := rfl
@[simp] theorem resetRegisters_responses : (resetRegisters s).responses = s.responses := rfl
@[simp] theorem resetRegisters_draws : (resetRegisters s).draws = s.draws + 531 := rfl

/-! ### takeReset: what the spec gives, and what the reset event leaves alone -/

@[simp] theorem takeReset_st : (takeReset s).st = .idle := by unfold takeReset; split <;> simp
@[simp] theorem takeReset_lastCmdValid : (takeReset s).lastCmdValid = false := by unfold takeReset; split <;> simp
@[simp] theorem takeReset_outRaced : (takeReset s).outRaced = s.outRaced := by unfold takeReset; split <;> simp
@[simp] theorem takeReset_params : (takeReset s).params = s.params := by unfold takeReset; split <;> simp
@[simp] theorem takeReset_requests : (takeReset s).requests = s.requests := by unfold takeReset; split <;> simp
@[simp] theorem takeReset_answers :
    (takeReset s).answers = if awaitsAnswer s.st then s.answers.tail else s.answers := by unfold takeReset; split <;> simp
@[simp] theorem takeReset_schedule : (takeReset s).schedule = s.schedule := by unfold takeReset; split <;> simp
@[simp] theorem takeReset_traffic : (takeReset s).traffic = s.traffic := by unfold takeReset; split <;> simp
@[simp] theorem takeReset_responses : (takeReset s).responses = s.responses := by unfold takeReset; split <;> simp

theorem takeReset_out : (takeReset s).out = if readRunning s then (loseOut s).out else s.out := by
  unfold takeReset; split <;> simp

/-! ### hostWriteOut: only OUT, the flag outRaced and the draw counter change -/

@[simp] theorem hostWriteOut_st (i : Nat) (v : Byte) :
    (hostWriteOut s i v).st = s.st := by
  unfold hostWriteOut; split <;> simp
@[simp] theorem hostWriteOut_op (i : Nat) (v : Byte) :
    (hostWriteOut s i v).op = s.op := by
  unfold hostWriteOut; split <;> simp
@[simp] theorem hostWriteOut_hlen (i : Nat) (v : Byte) :
    (hostWriteOut s i v).hlen = s.hlen := by
  unfold hostWriteOut; split <;> simp
@[simp] theorem hostWriteOut_blen (i : Nat) (v : Byte) :
    (hostWriteOut s i v).blen = s.blen := by
  unfold hostWriteOut; split <;> simp
@[simp] theorem hostWriteOut_cap (i : Nat) (v : Byte) :
    (hostWriteOut s i v).cap = s.cap := by
  unfold hostWriteOut; split <;> simp
@[simp] theorem hostWriteOut_tmo (i : Nat) (v : Byte) :
    (hostWriteOut s i v).tmo = s.tmo := by
  unfold hostWriteOut; split <;> simp
@[simp] theorem hostWriteOut_attempt (i : Nat) (v : Byte) :
    (hostWriteOut s i v).attempt = s.attempt := by
  unfold hostWriteOut; split <;> simp
@[simp] theorem hostWriteOut_lenD (i : Nat) (v : Byte) :
    (hostWriteOut s i v).lenD = s.lenD := by
  unfold hostWriteOut; split <;> simp
@[simp] theorem hostWriteOut_status (i : Nat) (v : Byte) :
    (hostWriteOut s i v).status = s.status := by
  unfold hostWriteOut; split <;> simp
@[simp] theorem hostWriteOut_lastCmd (i : Nat) (v : Byte) :
    (hostWriteOut s i v).lastCmd = s.lastCmd := by
  unfold hostWriteOut; split <;> simp
@[simp] theorem hostWriteOut_lastCmdValid (i : Nat) (v : Byte) :
    (hostWriteOut s i v).lastCmdValid = s.lastCmdValid := by
  unfold hostWriteOut; split <;> simp
@[simp] theorem hostWriteOut_txBuf (i : Nat) (v : Byte) :
    (hostWriteOut s i v).txBuf = s.txBuf := by
  unfold hostWriteOut; split <;> simp
@[simp] theorem hostWriteOut_txLen (i : Nat) (v : Byte) :
    (hostWriteOut s i v).txLen = s.txLen := by
  unfold hostWriteOut; split <;> simp
@[simp] theorem hostWriteOut_rxBuf (i : Nat) (v : Byte) :
    (hostWriteOut s i v).rxBuf = s.rxBuf := by
  unfold hostWriteOut; split <;> simp
@[simp] theorem hostWriteOut_params (i : Nat) (v : Byte) :
    (hostWriteOut s i v).params = s.params := by
  unfold hostWriteOut; split <;> simp
@[simp] theorem hostWriteOut_requests (i : Nat) (v : Byte) :
    (hostWriteOut s i v).requests = s.requests := by
  unfold hostWriteOut; split <;> simp
@[simp] theorem hostWriteOut_answers (i : Nat) (v : Byte) :
    (hostWriteOut s i v).answers = s.answers := by
  unfold hostWriteOut; split <;> simp
@[simp] theorem hostWriteOut_schedule (i : Nat) (v : Byte) :
    (hostWriteOut s i v).schedule = s.schedule := by
  unfold hostWriteOut; split <;> simp
@[simp] theorem hostWriteOut_traffic (i : Nat) (v : Byte) :
    (hostWriteOut s i v).traffic = s.traffic := by
  unfold hostWriteOut; split <;> simp
@[simp] theorem hostWriteOut_responses (i : Nat) (v : Byte) :
    (hostWriteOut s i v).responses = s.responses := by
  unfold hostWriteOut; split <;> simp

end Sys2Proof.Machine
end

