-- ==== Sys2Proof/Laws/Memory.lean ====
section
/-! SUPPORT. The laws of OUT: a read after a write to the same index gives what was written, a write leaves every other index
alone, and every operation on OUT keeps its canonical form. -/

namespace Sys2Proof.Machine

open Sys2Proof

@[simp] theorem outRead_outWrite_same (m : List Host.Cell) (i : Nat) (v : Byte) :
    outRead (outWrite m i v) i = some v := by
  induction m with
  | nil => simp [outWrite, outRead]
  | cons c rest ih =>
    obtain ⟨j, b⟩ := c
    simp only [outWrite]
    split
    · simp [outRead]
    · split
      · simp [outRead]
      · simp [outRead, *]

theorem outRead_outWrite_other (m : List Host.Cell) {i k : Nat} (v : Byte) (h : k ≠ i) :
    outRead (outWrite m i v) k = outRead m k := by
  induction m with
  | nil => simp [outWrite, outRead, h]
  | cons c rest ih =>
    obtain ⟨j, b⟩ := c
    simp only [outWrite]
    split
    · simp [outRead, h]
    · split
      · subst_vars
        simp [outRead, h]
      · simp [outRead, ih]

/-- What a fill leaves at any index: the byte it wrote there, or what was there before. -/
theorem outRead_outFill (bytes : List Byte) (m : List Host.Cell) (i k : Nat) :
    outRead (outFill m i bytes) k =
      if i ≤ k ∧ k < i + bytes.length then bytes[k - i]? else outRead m k := by
  induction bytes generalizing m i with
  | nil => simp only [outFill, List.length_nil]; split <;> first | omega | rfl
  | cons b bs ih =>
    simp only [outFill, ih, List.length_cons]
    by_cases hk : k = i
    · subst hk
      simp
    · rw [outRead_outWrite_other _ _ hk]
      split <;> rename_i h1
      · rw [if_pos (by omega), show k - i = (k - (i + 1)) + 1 by omega]
        simp
      · rw [if_neg (by omega)]

theorem risingFrom_outWrite (m : List Host.Cell) (lo i : Nat) (v : Byte) (h : risingFrom lo m = true)
    (hi : lo ≤ i) : risingFrom lo (outWrite m i v) = true := by
  induction m generalizing lo with
  | nil => simp [outWrite, risingFrom, hi]
  | cons c rest ih =>
    obtain ⟨j, b⟩ := c
    simp only [risingFrom, Bool.and_eq_true, decide_eq_true_eq] at h
    simp only [outWrite]
    split
    · simp only [risingFrom, Bool.and_eq_true, decide_eq_true_eq]
      exact ⟨hi, by omega, h.2⟩
    · split
      · subst_vars
        simpa [risingFrom] using h
      · simp only [risingFrom, Bool.and_eq_true, decide_eq_true_eq]
        exact ⟨h.1, ih _ h.2 (by omega)⟩

theorem all_outWrite (m : List Host.Cell) (i : Nat) (v : Byte) (h : (m.all fun c => decide (c.1 < 255)) = true)
    (hi : i < 255) : ((outWrite m i v).all fun c => decide (c.1 < 255)) = true := by
  induction m with
  | nil => simp [outWrite, hi]
  | cons c rest ih =>
    obtain ⟨j, b⟩ := c
    simp only [List.all_cons, Bool.and_eq_true, decide_eq_true_eq] at h
    simp only [outWrite]
    split
    · simp [hi, h.1]; simpa using h.2
    · split
      · simp [hi]; simpa using h.2
      · simp only [List.all_cons, Bool.and_eq_true, decide_eq_true_eq]
        exact ⟨h.1, ih h.2⟩

/-- A write inside OUT keeps the canonical form. -/
theorem wf_outWrite {m : List Host.Cell} {i : Nat} (v : Byte) (h : Memory.wf m = true) (hi : i < 255) :
    Memory.wf (outWrite m i v) = true := by
  simp only [Memory.wf, Bool.and_eq_true] at h ⊢
  exact ⟨risingFrom_outWrite m 0 i v h.1 (Nat.zero_le _), all_outWrite m i v h.2 hi⟩

/-- A fill inside OUT keeps the canonical form. -/
theorem wf_outFill (bytes : List Byte) {m : List Host.Cell} {i : Nat} (h : Memory.wf m = true)
    (hi : i + bytes.length ≤ 255) : Memory.wf (outFill m i bytes) = true := by
  induction bytes generalizing m i with
  | nil => exact h
  | cons b bs ih =>
    simp only [List.length_cons] at hi
    exact ih (wf_outWrite b h (by omega)) (by omega)

@[simp] theorem freeBytes_length (d n : Nat) : (freeBytes d n).length = n := by simp [freeBytes]

/-- Draws into OUT keep the canonical form. -/
theorem wf_outUnspecified {s : State} {n : Nat} (h : Memory.wf s.out = true) (hn : n ≤ 255) :
    Memory.wf (outUnspecified s n).out = true := by
  simpa using wf_outFill (freeBytes s.draws n) (i := 0) h (by simpa using hn)

/-- Storing a payload keeps the canonical form. -/
theorem wf_outStore {s : State} {p : List Byte} (h : Memory.wf s.out = true) (hn : p.length ≤ 255) :
    Memory.wf (outStore s p).out = true := by
  unfold outStore
  split
  · exact wf_outUnspecified h hn
  · exact wf_outFill p (i := 0) h (by omega)

/-- Losing OUT keeps the canonical form. -/
theorem wf_loseOut {s : State} (h : Memory.wf s.out = true) : Memory.wf (loseOut s).out = true :=
  wf_outUnspecified h (Nat.le_refl 255)

/-- Every byte of a lost OUT is a free one. -/
theorem outRead_loseOut (s : State) {k : Nat} (hk : k < 255) :
    outRead (loseOut s).out k = some (Config.freeByte (s.draws + k)) := by
  simp [loseOut, outRead_outFill, freeBytes, hk]

/-- A host write to OUT keeps the canonical form. -/
theorem wf_hostWriteOut {s : State} (i : Fin 255) (v : Byte) (h : Memory.wf s.out = true) :
    Memory.wf (hostWriteOut s i.val v).out = true := by
  unfold hostWriteOut
  split
  · simpa using wf_loseOut h
  · exact wf_outWrite v h i.isLt

/-- The reset event keeps OUT's canonical form. -/
theorem wf_takeReset {s : State} (h : Memory.wf s.out = true) : Memory.wf (takeReset s).out = true := by
  rw [takeReset_out]
  split
  · exact wf_loseOut h
  · exact h

/-- After reset OUT is in canonical form. -/
theorem wf_reset : Memory.wf State.reset.out = true := rfl

end Sys2Proof.Machine
end

