-- ==== Sys2Proof/Laws/Codec.lean ====
section
/-! SUPPORT. The small laws of byte sums, of read answers and of the frame builder. -/

namespace Sys2Proof.Machine

open Sys2Proof

theorem byteTotal_append (a b : List Byte) : byteTotal (a ++ b) = byteTotal a + byteTotal b := by
  induction a with
  | nil => simp [byteTotal]
  | cons x xs ih => simp only [List.cons_append, byteTotal, ih]; omega

theorem sum8_toNat (l : List Byte) : (sum8 l).toNat = byteTotal l % 256 := by
  simp [sum8, BitVec.toNat_ofNat]

/-- `neg8` is the two's-complement negation of a byte. -/
theorem neg8_eq (x : Byte) : neg8 x = -x := by
  apply BitVec.eq_of_toNat_eq
  simp [neg8, BitVec.toNat_ofNat, BitVec.toNat_neg]

theorem neg8_toNat (x : Byte) : (neg8 x).toNat = (256 - x.toNat) % 256 := by
  simp [neg8, BitVec.toNat_ofNat]

/-- The sum of a list is zero exactly when its exact total is a multiple of 256. -/
theorem sum8_eq_zero_iff (l : List Byte) : sum8 l = 0 ↔ byteTotal l % 256 = 0 := by
  rw [← sum8_toNat]
  constructor
  · intro h; rw [h]; rfl
  · intro h; exact BitVec.eq_of_toNat_eq (by simpa using h)

/-- The expected response code is the command code plus one, wrapping. -/
theorem expectedCode_eq (c : Byte) : expectedCode c = c + 1 := by
  apply BitVec.eq_of_toNat_eq
  simp [expectedCode, BitVec.toNat_ofNat, BitVec.toNat_add]

@[simp] theorem byteAt_cons_zero (b : Byte) (l : List Byte) : byteAt (b :: l) 0 = b := rfl

@[simp] theorem byteAt_cons_succ (b : Byte) (l : List Byte) (k : Nat) : byteAt (b :: l) (k + 1) = byteAt l k := rfl

@[simp] theorem byteAt_nil (k : Nat) : byteAt [] k = 0 := rfl

theorem byteAt_append_left {a b : List Byte} {k : Nat} (h : k < a.length) : byteAt (a ++ b) k = byteAt a k := by
  simp only [byteAt, List.getD, List.getElem?_append_left h]

theorem byteAt_append_right {a b : List Byte} {k : Nat} (h : a.length ≤ k) :
    byteAt (a ++ b) k = byteAt b (k - a.length) := by
  simp only [byteAt, List.getD, List.getElem?_append_right h]

@[simp] theorem frameBuild_length (t : Byte) (x : List Byte) : (frameBuild t x).length = x.length + 8 := by
  simp [frameBuild, headBytes]

/-- The frame's bytes written out. -/
theorem frameBuild_eq (t : Byte) (x : List Byte) :
    frameBuild t x = 0x00 :: 0x00 :: 0xFF :: BitVec.ofNat 8 (x.length + 1) :: neg8 (BitVec.ofNat 8 (x.length + 1)) :: t ::
      (x ++ [neg8 (sum8 (t :: x)), 0x00]) := by
  simp [frameBuild, headBytes]

@[simp] theorem overlay_length (a b : List Byte) (h : a.length ≤ b.length) : (overlay a b).length = b.length := by
  simp [overlay]; omega

@[simp] theorem byteAt_overlay_cons_zero (x : Byte) (a b : List Byte) : byteAt (overlay (x :: a) b) 0 = x := rfl

/-- Writing a prefix again, longer, leaves nothing of the first write. -/
theorem overlay_overlay {a b : List Byte} (c : List Byte) (h : a.length ≤ b.length) :
    overlay b (overlay a c) = overlay b c := by
  simp only [overlay, List.drop_append]
  rw [List.drop_eq_nil_of_le h, List.nil_append, List.drop_drop]
  congr 2
  omega

/-- Reading back a written prefix. -/
theorem overlay_take (a b : List Byte) : (overlay a b).take a.length = a := by simp [overlay]

end Sys2Proof.Machine
end

