-- ==== Sys2Proof/Laws/Decode.lean ====
section
/-! SUPPORT. What a wire decode says about the bytes: an accepted byte list is the encoding of what it decodes to. -/

namespace Sys2Proof

/-- A wire decode loses no byte: the bytes are the frame's encoding. -/
theorem decodeWire_encode {f rest : List Byte} {i : Instr} (h : decodeWire f = .ok i rest) :
    encode i = f ∧ rest = [] := by
  unfold decodeWire at h
  split at h
  · cases h; exact ⟨by simp [encode, *], rfl⟩
  · split at h
    · cases h; exact ⟨by simp [encode, *], rfl⟩
    · split at h
      · split at h
        · split at h
          · cases h
            simp_all [encode, headBytes]
          · split at h
            · cases h
              simp_all [encode, headBytes]
            · cases h
        · cases h
      · cases h

/-- What decodes on the wire is a wire row. -/
theorem decodeWire_port {f rest : List Byte} {i : Instr} (h : decodeWire f = .ok i rest) : i.port = .wire := by
  unfold decodeWire at h
  repeat' split at h
  all_goals cases h
  all_goals rfl

end Sys2Proof
end

