-- ==== Sys2Proof/Laws/Ops.lean ====
section
/-! SUPPORT. For each shared operation one lemma that says everything it can do, and the fields it leaves alone; later proofs cite
these and do not unfold the operation. -/

namespace Sys2Proof.Machine

open Sys2Proof

/-! ### Control states -/

@[simp] theorem ofCode_code (st : St) : St.ofCode st.code = st := by
  cases st with
  | unused k => revert k; decide
  | _ => rfl

theorem code_ofCode (c : BitVec 4) : (St.ofCode c).code = c := by
  revert c; decide

/-! ### Acceptance (R94) -/

/-- A block that is IDLE accepts. -/
theorem accept_idle {s : State} (h : s.st = .idle) (op : Byte) (k : State → Host.Outcome State Fault Refusal) :
    accept s op k = k { s with op := op } := by simp [accept, h]

/-- A busy block in a named state keeps the request waiting. -/
theorem accept_busy {s : State} (h : s.st ≠ .idle) (hn : isNamed s.st = true) (op : Byte)
    (k : State → Host.Outcome State Fault Refusal) : accept s op k = .next s := by
  unfold accept
  split <;> simp_all [isNamed]

/-- If acceptance answers a next state, the block accepted or kept the request waiting. -/
theorem accept_cases {s t : State} {op : Byte} {k : State → Host.Outcome State Fault Refusal}
    (h : accept s op k = .next t) :
    (s.st = .idle ∧ k { s with op := op } = .next t) ∨ (s.st ≠ .idle ∧ isNamed s.st = true ∧ t = s) := by
  unfold accept at h
  split at h
  · exact .inl ⟨‹_›, h⟩
  · cases h
  · rename_i h1 h2
    refine .inr ⟨h1, ?_, by cases h; rfl⟩
    cases hs : s.st <;> simp_all [isNamed]

/-- An instruction on the wire answers a next state exactly in a named state. -/
theorem onWire_named {s : State} (h : isNamed s.st = true) (k : State → State) : onWire s k = .next (k s) := by
  unfold onWire
  split <;> simp_all [isNamed]

theorem onWire_cases {s t : State} {k : State → State} (h : onWire s k = .next t) :
    isNamed s.st = true ∧ t = k s := by
  unfold onWire at h
  split at h
  · cases h
  · refine ⟨?_, by cases h; rfl⟩
    cases hs : s.st <;> simp_all [isNamed]

/-! ### What a ready poll does -/

/-- Everything DecodeFull's outcome can do. -/
theorem settleDecode_cases (s : State) (d : FullDecode) :
    (∃ p, d = .payload p ∧ settleDecode s d = finish (outStore s p) p.length) ∨
    (∃ n, d = .badPayload n ∧ settleDecode s d = raise (outUnspecified s n) .invalidFrame) ∨
    (∃ e, d = .error e ∧ settleDecode s d = raise s e) := by
  cases d with
  | payload p => exact .inl ⟨p, rfl, rfl⟩
  | badPayload n => exact .inr (.inl ⟨n, rfl, rfl⟩)
  | error e => exact .inr (.inr ⟨e, rfl, rfl⟩)

/-- Everything Decode-length can do to the state. -/
theorem checkLength_cases (s : State) (r : List Byte) :
    (headOk r = true ∧ checkLength s r = { s with lenD := byteAt r 4, st := .rrNack }) ∨
    (headOk r = false ∧ checkLength s r = raise s .invalidFrame) := by
  unfold checkLength decodeLength
  cases h : headOk r <;> simp

/-- Everything WAIT_ACK's check can do. -/
theorem checkAck_cases (s : State) (r : List Byte) :
    ((r.drop 1).take 6 = ackBytes ∧ checkAck s r = finish s 0) ∨
    ((r.drop 1).take 6 ≠ ackBytes ∧ checkAck s r = raise s .invalidAck) := by
  unfold checkAck
  split
  · exact .inl ⟨‹_›, rfl⟩
  · exact .inr ⟨‹_›, rfl⟩

/-- The payload DecodeFull finds has length LEN - 2 at most 253 and at most CAP. -/
theorem decodeFull_payload_length {r : List Byte} {ld ec cap : Byte} {p : List Byte}
    (h : decodeFull r ld ec cap = .payload p) : p.length ≤ ld.toNat - 2 ∧ p.length ≤ cap.toNat ∧ p.length ≤ 253 := by
  unfold decodeFull at h
  simp only at h
  repeat' split at h
  all_goals try (cases h; done)
  cases h
  have := ld.isLt
  have hp : ∀ n, ((List.drop 8 r).take n).length ≤ n := fun n => by simp
  have hq := hp ((byteAt r 4).toNat - 2)
  rename_i hld _ _ hcap _
  simp only [ne_eq, Decidable.not_not] at hld
  have hl := congrArg BitVec.toNat hld
  omega

/-- After a payload-checksum failure the unspecified bytes lie within CAP. -/
theorem decodeFull_badPayload_le {r : List Byte} {ld ec cap : Byte} {n : Nat}
    (h : decodeFull r ld ec cap = .badPayload n) : n = ld.toNat - 2 ∧ n ≤ cap.toNat ∧ n ≤ 253 := by
  unfold decodeFull at h
  simp only at h
  repeat' split at h
  all_goals try (cases h; done)
  cases h
  have := ld.isLt
  rename_i hld _ _ hcap _
  simp only [ne_eq, Decidable.not_not] at hld
  have hl := congrArg BitVec.toNat hld
  omega

/-- An error of DecodeFull before the copy is INVALID_FRAME or NO_SPACE. -/
theorem decodeFull_error_kind {r : List Byte} {ld ec cap : Byte} {e : ErrorKind}
    (h : decodeFull r ld ec cap = .error e) : e = .invalidFrame ∨ e = .noSpace := by
  unfold decodeFull at h
  simp only at h
  repeat' split at h
  all_goals cases h
  all_goals simp

/-- Everything a poll state does with a whole ready answer; a state that issues no read does nothing. -/
theorem checkAnswer_cases (s : State) (r : List Byte) :
    (s.st = .wcAckPoll ∧ checkAnswer s r = checkAck s r) ∨
    (s.st = .rrLenPoll ∧ checkAnswer s r = checkLength s r) ∨
    (s.st = .rrDataPoll ∧ checkAnswer s r = checkData s r) ∨
    (isPoll s.st = false ∧ checkAnswer s r = s) := by
  unfold checkAnswer
  cases h : s.st <;> simp [isPoll]

/-- The states that issue a read are the poll states (R19, R82). -/
theorem readSize_eq_zero_iff (s : State) : readSize s = 0 ↔ isPoll s.st = false := by
  unfold readSize
  cases s.st <;> simp [isPoll]

/-- A poll reads at most 263 bytes and at least 7 (R29, R82). -/
theorem readSize_bounds {s : State} (h : isPoll s.st = true) : 7 ≤ readSize s ∧ readSize s ≤ 263 := by
  unfold readSize
  have := s.lenD.isLt
  cases hs : s.st <;> simp_all [isPoll]
  omega

/-- Everything receiving a frame can do: nothing outside a poll, a poll that is not ready on a short frame, else the poll's
checks on the status byte and as many frame bytes as the poll reads. -/
theorem receiveFrame_cases (s : State) (f : List Byte) :
    (isPoll s.st = false ∧ receiveFrame s f = s) ∨
    (isPoll s.st = true ∧ f.length + 1 < readSize s ∧ receiveFrame s f = notReady s) ∨
    (isPoll s.st = true ∧ readSize s ≤ f.length + 1 ∧
      receiveFrame s f = checkAnswer (latchRx s (byteAt s.rxBuf 0 :: f.take (readSize s - 1)))
        (byteAt s.rxBuf 0 :: f.take (readSize s - 1))) := by
  unfold receiveFrame
  by_cases h0 : readSize s = 0
  · exact .inl ⟨(readSize_eq_zero_iff s).1 h0, by simp [h0]⟩
  · have hp : isPoll s.st = true := by
      have := mt (readSize_eq_zero_iff s).2 h0
      simpa using this
    by_cases h1 : f.length + 1 < readSize s
    · exact .inr (.inl ⟨hp, h1, by simp [h0, h1]⟩)
    · exact .inr (.inr ⟨hp, by omega, by simp [h0, h1]⟩)

/-! ### The fields that receiving a frame leaves alone (R85, R86, R88) -/

@[simp] theorem settleDecode_op (s : State) (d : FullDecode) : (settleDecode s d).op = s.op := by
  cases d <;> simp [settleDecode]

@[simp] theorem settleDecode_hlen (s : State) (d : FullDecode) : (settleDecode s d).hlen = s.hlen := by
  cases d <;> simp [settleDecode]

@[simp] theorem settleDecode_blen (s : State) (d : FullDecode) : (settleDecode s d).blen = s.blen := by
  cases d <;> simp [settleDecode]

@[simp] theorem settleDecode_cap (s : State) (d : FullDecode) : (settleDecode s d).cap = s.cap := by
  cases d <;> simp [settleDecode]

@[simp] theorem settleDecode_tmo (s : State) (d : FullDecode) : (settleDecode s d).tmo = s.tmo := by
  cases d <;> simp [settleDecode]

@[simp] theorem settleDecode_attempt (s : State) (d : FullDecode) : (settleDecode s d).attempt = s.attempt := by
  cases d <;> simp [settleDecode]

@[simp] theorem settleDecode_lastCmd (s : State) (d : FullDecode) : (settleDecode s d).lastCmd = s.lastCmd := by
  cases d <;> simp [settleDecode]

@[simp] theorem settleDecode_lastCmdValid (s : State) (d : FullDecode) : (settleDecode s d).lastCmdValid = s.lastCmdValid := by
  cases d <;> simp [settleDecode]

@[simp] theorem settleDecode_txBuf (s : State) (d : FullDecode) : (settleDecode s d).txBuf = s.txBuf := by
  cases d <;> simp [settleDecode]

@[simp] theorem settleDecode_txLen (s : State) (d : FullDecode) : (settleDecode s d).txLen = s.txLen := by
  cases d <;> simp [settleDecode]

@[simp] theorem settleDecode_outRaced (s : State) (d : FullDecode) : (settleDecode s d).outRaced = s.outRaced := by
  cases d <;> simp [settleDecode]

@[simp] theorem settleDecode_params (s : State) (d : FullDecode) : (settleDecode s d).params = s.params := by
  cases d <;> simp [settleDecode]

@[simp] theorem settleDecode_requests (s : State) (d : FullDecode) : (settleDecode s d).requests = s.requests := by
  cases d <;> simp [settleDecode]

@[simp] theorem settleDecode_answers (s : State) (d : FullDecode) : (settleDecode s d).answers = s.answers := by
  cases d <;> simp [settleDecode]

@[simp] theorem settleDecode_schedule (s : State) (d : FullDecode) : (settleDecode s d).schedule = s.schedule := by
  cases d <;> simp [settleDecode]

@[simp] theorem settleDecode_traffic (s : State) (d : FullDecode) : (settleDecode s d).traffic = s.traffic := by
  cases d <;> simp [settleDecode]

@[simp] theorem settleDecode_responses (s : State) (d : FullDecode) : (settleDecode s d).responses = s.responses := by
  cases d <;> simp [settleDecode]

@[simp] theorem checkAnswer_op (s : State) (r : List Byte) : (checkAnswer s r).op = s.op := by
  unfold checkAnswer checkAck checkLength checkData; repeat' split
  all_goals simp

@[simp] theorem checkAnswer_hlen (s : State) (r : List Byte) : (checkAnswer s r).hlen = s.hlen := by
  unfold checkAnswer checkAck checkLength checkData; repeat' split
  all_goals simp

@[simp] theorem checkAnswer_blen (s : State) (r : List Byte) : (checkAnswer s r).blen = s.blen := by
  unfold checkAnswer checkAck checkLength checkData; repeat' split
  all_goals simp

@[simp] theorem checkAnswer_cap (s : State) (r : List Byte) : (checkAnswer s r).cap = s.cap := by
  unfold checkAnswer checkAck checkLength checkData; repeat' split
  all_goals simp

@[simp] theorem checkAnswer_tmo (s : State) (r : List Byte) : (checkAnswer s r).tmo = s.tmo := by
  unfold checkAnswer checkAck checkLength checkData; repeat' split
  all_goals simp

@[simp] theorem checkAnswer_attempt (s : State) (r : List Byte) : (checkAnswer s r).attempt = s.attempt := by
  unfold checkAnswer checkAck checkLength checkData; repeat' split
  all_goals simp

@[simp] theorem checkAnswer_lastCmd (s : State) (r : List Byte) : (checkAnswer s r).lastCmd = s.lastCmd := by
  unfold checkAnswer checkAck checkLength checkData; repeat' split
  all_goals simp

@[simp] theorem checkAnswer_lastCmdValid (s : State) (r : List Byte) : (checkAnswer s r).lastCmdValid = s.lastCmdValid := by
  unfold checkAnswer checkAck checkLength checkData; repeat' split
  all_goals simp

@[simp] theorem checkAnswer_txBuf (s : State) (r : List Byte) : (checkAnswer s r).txBuf = s.txBuf := by
  unfold checkAnswer checkAck checkLength checkData; repeat' split
  all_goals simp

@[simp] theorem checkAnswer_txLen (s : State) (r : List Byte) : (checkAnswer s r).txLen = s.txLen := by
  unfold checkAnswer checkAck checkLength checkData; repeat' split
  all_goals simp

@[simp] theorem checkAnswer_outRaced (s : State) (r : List Byte) : (checkAnswer s r).outRaced = s.outRaced := by
  unfold checkAnswer checkAck checkLength checkData; repeat' split
  all_goals simp

@[simp] theorem checkAnswer_params (s : State) (r : List Byte) : (checkAnswer s r).params = s.params := by
  unfold checkAnswer checkAck checkLength checkData; repeat' split
  all_goals simp

@[simp] theorem checkAnswer_requests (s : State) (r : List Byte) : (checkAnswer s r).requests = s.requests := by
  unfold checkAnswer checkAck checkLength checkData; repeat' split
  all_goals simp

@[simp] theorem checkAnswer_answers (s : State) (r : List Byte) : (checkAnswer s r).answers = s.answers := by
  unfold checkAnswer checkAck checkLength checkData; repeat' split
  all_goals simp

@[simp] theorem checkAnswer_schedule (s : State) (r : List Byte) : (checkAnswer s r).schedule = s.schedule := by
  unfold checkAnswer checkAck checkLength checkData; repeat' split
  all_goals simp

@[simp] theorem checkAnswer_traffic (s : State) (r : List Byte) : (checkAnswer s r).traffic = s.traffic := by
  unfold checkAnswer checkAck checkLength checkData; repeat' split
  all_goals simp

@[simp] theorem checkAnswer_responses (s : State) (r : List Byte) : (checkAnswer s r).responses = s.responses := by
  unfold checkAnswer checkAck checkLength checkData; repeat' split
  all_goals simp

@[simp] theorem receiveFrame_op (s : State) (f : List Byte) : (receiveFrame s f).op = s.op := by
  unfold receiveFrame; repeat' split
  all_goals simp

@[simp] theorem receiveFrame_hlen (s : State) (f : List Byte) : (receiveFrame s f).hlen = s.hlen := by
  unfold receiveFrame; repeat' split
  all_goals simp

@[simp] theorem receiveFrame_blen (s : State) (f : List Byte) : (receiveFrame s f).blen = s.blen := by
  unfold receiveFrame; repeat' split
  all_goals simp

@[simp] theorem receiveFrame_cap (s : State) (f : List Byte) : (receiveFrame s f).cap = s.cap := by
  unfold receiveFrame; repeat' split
  all_goals simp

@[simp] theorem receiveFrame_tmo (s : State) (f : List Byte) : (receiveFrame s f).tmo = s.tmo := by
  unfold receiveFrame; repeat' split
  all_goals simp

@[simp] theorem receiveFrame_attempt (s : State) (f : List Byte) : (receiveFrame s f).attempt = s.attempt := by
  unfold receiveFrame; repeat' split
  all_goals simp

@[simp] theorem receiveFrame_lastCmd (s : State) (f : List Byte) : (receiveFrame s f).lastCmd = s.lastCmd := by
  unfold receiveFrame; repeat' split
  all_goals simp

@[simp] theorem receiveFrame_lastCmdValid (s : State) (f : List Byte) : (receiveFrame s f).lastCmdValid = s.lastCmdValid := by
  unfold receiveFrame; repeat' split
  all_goals simp

@[simp] theorem receiveFrame_txBuf (s : State) (f : List Byte) : (receiveFrame s f).txBuf = s.txBuf := by
  unfold receiveFrame; repeat' split
  all_goals simp

@[simp] theorem receiveFrame_txLen (s : State) (f : List Byte) : (receiveFrame s f).txLen = s.txLen := by
  unfold receiveFrame; repeat' split
  all_goals simp

@[simp] theorem receiveFrame_outRaced (s : State) (f : List Byte) : (receiveFrame s f).outRaced = s.outRaced := by
  unfold receiveFrame; repeat' split
  all_goals simp

@[simp] theorem receiveFrame_params (s : State) (f : List Byte) : (receiveFrame s f).params = s.params := by
  unfold receiveFrame; repeat' split
  all_goals simp

@[simp] theorem receiveFrame_requests (s : State) (f : List Byte) : (receiveFrame s f).requests = s.requests := by
  unfold receiveFrame; repeat' split
  all_goals simp

@[simp] theorem receiveFrame_answers (s : State) (f : List Byte) : (receiveFrame s f).answers = s.answers := by
  unfold receiveFrame; repeat' split
  all_goals simp

@[simp] theorem receiveFrame_schedule (s : State) (f : List Byte) : (receiveFrame s f).schedule = s.schedule := by
  unfold receiveFrame; repeat' split
  all_goals simp

@[simp] theorem receiveFrame_traffic (s : State) (f : List Byte) : (receiveFrame s f).traffic = s.traffic := by
  unfold receiveFrame; repeat' split
  all_goals simp

@[simp] theorem receiveFrame_responses (s : State) (f : List Byte) : (receiveFrame s f).responses = s.responses := by
  unfold receiveFrame; repeat' split
  all_goals simp

/-! ### What a failed poll's delay does -/

/-- Everything a delay step can do (R81). -/
theorem delayStep_cases (s : State) :
    (pollLimit s = 0 ∧ delayStep s = { delay s with st := pollOf s.st }) ∨
    (s.attempt.toNat + 1 = pollLimit s ∧
      delayStep s = raise { delay s with attempt := countPoll s.attempt } .timeout) ∨
    (pollLimit s ≠ 0 ∧ s.attempt.toNat + 1 ≠ pollLimit s ∧
      delayStep s = { delay s with attempt := countPoll s.attempt, st := pollOf s.st }) := by
  unfold delayStep
  by_cases h0 : pollLimit s = 0
  · exact .inl ⟨h0, by simp [h0]⟩
  · by_cases h1 : s.attempt.toNat + 1 = pollLimit s
    · exact .inr (.inl ⟨h1, by simp [h0, h1]⟩)
    · exact .inr (.inr ⟨h0, h1, by simp [h0, h1]⟩)

end Sys2Proof.Machine
end

