-- ==== Sys2Proof/Laws/PerInstr.lean ====
section
/-! SUPPORT. A statement about every instruction as syntax: the size of its encoding. -/

namespace Sys2Proof

/-- How many bytes an instruction takes on its port: a host request is its descriptor and its data (R53, R56), a frame is its bytes
(R59, R65, R66). -/
def Instr.size : Instr → Nat
  | .beginOp => 4
  | .wakeup => 4
  | .writeCommand header body => 4 + (header.length + body.length)
  | .readResponse _ _ => 4
  | .ackFrame => 6
  | .nackFrame => 5
  | .dataH2D _ _ tail => 6 + tail.length
  | .dataD2H _ _ tail => 6 + tail.length

end Sys2Proof

namespace Sys2Proof.Laws.EncodedSize

open Sys2Proof

/-- An encoding has its instruction's size; a well-formed host request has at most 514 bytes (R34, R56) and a well-formed frame at
most 262 (R60). -/
def Statement (i : Instr) : Prop :=
  (encode i).length = i.size ∧
    (i.wellFormed = true → i.size ≤ (match i.port with | .host => 514 | .wire => 262))

theorem beginOp : Statement .beginOp := by simp [Statement, encode, Instr.size, Instr.port]

theorem wakeup : Statement .wakeup := by simp [Statement, encode, Instr.size, Instr.port]

theorem writeCommand (header body : List Byte) : Statement (.writeCommand header body) := by
  simp only [Statement, encode, Instr.size, Instr.port, Instr.wellFormed, Bool.and_eq_true, decide_eq_true_eq]
  exact ⟨by simp; omega, by omega⟩

theorem readResponse (cap : Byte) (tmo : Half) : Statement (.readResponse cap tmo) := by
  simp [Statement, encode, Instr.size, Instr.port]

theorem ackFrame : Statement .ackFrame := by simp [Statement, encode, Instr.size, Instr.port, ackBytes]

theorem nackFrame : Statement .nackFrame := by simp [Statement, encode, Instr.size, Instr.port, nackBytes]

theorem dataH2D (len lcs : Byte) (tail : List Byte) : Statement (.dataH2D len lcs tail) := by
  simp only [Statement, encode, Instr.size, Instr.port, Instr.wellFormed, decide_eq_true_eq]
  exact ⟨by simp [headBytes]; omega, by omega⟩

theorem dataD2H (len lcs : Byte) (tail : List Byte) : Statement (.dataD2H len lcs tail) := by
  simp only [Statement, encode, Instr.size, Instr.port, Instr.wellFormed, decide_eq_true_eq]
  exact ⟨by simp [headBytes]; omega, by omega⟩

end Sys2Proof.Laws.EncodedSize
end

