-- ==== Sys2Proof/Laws/Step.lean ====
section
/-! SUPPORT. What one step comes to in each control state, and everything a step can do: the lemmas every later proof about
step cites instead of unfolding fetch. -/

namespace Sys2Proof.Machine

open Sys2Proof

/-! ### Who moves -/

/-- In an unused state every step is the model fault F_BAD_STATE, whoever would move. -/
theorem step_unused {s : State} (h : isNamed s.st = false) : step s = .fault .badState := by
  unfold step fetch
  cases hs : s.st <;> simp_all [isNamed, runFetched]

/-- In a named state a step is the next move. -/
theorem step_named {s : State} (h : isNamed s.st = true) : step s = runFetched (nextMove s) := by
  unfold step fetch
  split <;> simp_all [isNamed]

/-- A step that answers a next state starts in a named state. -/
theorem named_of_step {s t : State} (h : step s = .next t) : isNamed s.st = true := by
  cases hn : isNamed s.st
  · simp [step_unused hn] at h
  · rfl

/-- An unused state is the model fault F_BAD_STATE for the block's own move too. -/
theorem block_unused {s : State} (h : isNamed s.st = false) : runFetched (blockMove s) = .fault .badState := by
  unfold blockMove
  cases hs : s.st <;> simp_all [isNamed, runFetched]

/-- With the schedule used up the block moves. -/
theorem step_free {s : State} (h : s.schedule = []) : step s = runFetched (blockMove s) := by
  cases hn : isNamed s.st
  · rw [step_unused hn, block_unused hn]
  · simp [step_named hn, nextMove, h]

/-- A scheduled move of the block is the block's move on what is left of the schedule. -/
theorem step_block {s : State} {rest : List Move} (h : s.schedule = .block :: rest) :
    step s = runFetched (blockMove { s with schedule := rest }) := by
  cases hn : isNamed s.st
  · exact (step_unused hn).trans (block_unused (s := { s with schedule := rest }) hn).symm
  · simp [step_named hn, nextMove, h]

/-- A wait changes the schedule alone. -/
theorem step_wait {s : State} {rest : List Move} (hn : isNamed s.st = true) (h : s.schedule = .wait :: rest) :
    step s = .next { s with schedule := rest } := by
  simp [step_named hn, nextMove, h, runFetched]

/-- A stuck block stays as it is. -/
theorem step_never {s : State} {rest : List Move} (hn : isNamed s.st = true) (h : s.schedule = .never :: rest) :
    step s = .next s := by
  simp [step_named hn, nextMove, h, runFetched]

/-- A reset event. -/
theorem step_reset {s : State} {rest : List Move} (hn : isNamed s.st = true) (h : s.schedule = .reset :: rest) :
    step s = .next (takeReset { s with schedule := rest }) := by
  simp [step_named hn, nextMove, h, runFetched]

/-- A host write to OUT. -/
theorem step_hostWrite {s : State} {i : Fin 255} {v : Byte} {rest : List Move} (hn : isNamed s.st = true)
    (h : s.schedule = .hostWritesOut i v :: rest) :
    step s = .next (hostWriteOut { s with schedule := rest } i.val v) := by
  simp [step_named hn, nextMove, h, runFetched]

/-- Everything the schedule's head can make of a step. -/
theorem step_cases {s t : State} (h : step s = .next t) : isNamed s.st = true ∧
    ((s.schedule = [] ∧ runFetched (blockMove s) = .next t) ∨
    (∃ rest, s.schedule = .block :: rest ∧ runFetched (blockMove { s with schedule := rest }) = .next t) ∨
    (∃ rest, s.schedule = .wait :: rest ∧ t = { s with schedule := rest }) ∨
    (∃ rest, s.schedule = .never :: rest ∧ t = s) ∨
    (∃ rest, s.schedule = .reset :: rest ∧ t = takeReset { s with schedule := rest }) ∨
    (∃ i v rest, s.schedule = .hostWritesOut i v :: rest ∧ t = hostWriteOut { s with schedule := rest } i.val v)) := by
  have hn := named_of_step h
  refine ⟨hn, ?_⟩
  rw [step_named hn] at h
  unfold nextMove at h
  split at h
  · exact .inl ⟨‹_›, h⟩
  · exact .inr (.inl ⟨_, ‹_›, h⟩)
  · exact .inr (.inr (.inl ⟨_, ‹_›, by cases h; rfl⟩))
  · exact .inr (.inr (.inr (.inl ⟨_, ‹_›, by cases h; rfl⟩)))
  · exact .inr (.inr (.inr (.inr (.inl ⟨_, ‹_›, by cases h; rfl⟩))))
  · exact .inr (.inr (.inr (.inr (.inr ⟨_, _, _, ‹_›, by cases h; rfl⟩))))

/-! ### The block's move in each state -/

/-- WC_SEND sends exactly `TXBUF[0..TXLEN-1]`, whether or not those bytes are a frame. -/
theorem block_send {s : State} (h : s.st = .wcSend) : runFetched (blockMove s) = .next (sendFrame s (txFrame s)) := by
  simp only [blockMove, h, fetchSend]
  split
  · rename_i hd
    have he := decodeWire_encode hd
    simp only [runFetched, exec, execDataH2D, onWire, h, ↓reduceIte]
    rw [← he.1]
  · rfl

/-- RR_NACK sends the redelivery request. -/
theorem block_nack {s : State} (h : s.st = .rrNack) : runFetched (blockMove s) = .next (redeliver s) := by
  simp [blockMove, h, runFetched, exec, execNackFrame, onWire]

/-- A delay state issues its delay. -/
theorem block_delay {s : State} (h : isDelay s.st = true) : runFetched (blockMove s) = .next (delayStep s) := by
  unfold blockMove
  cases hs : s.st <;> simp_all [isDelay, runFetched]

/-- RESPOND hands STATUS to the host. -/
theorem block_respond {s : State} (h : s.st = .respond) : runFetched (blockMove s) = .next (takeResponse s) := by
  simp [blockMove, h, runFetched]

/-- A frame received in a poll state is received by exec and by the settled path alike. -/
theorem exec_frame_eq_receive {s : State} {f : List Byte} {i : Instr} {rest : List Byte} (hp : isPoll s.st = true)
    (hd : decodeWire f = .ok i rest) : exec i s = .next (receiveFrame s f) := by
  have he := (decodeWire_encode hd).1
  have hw := decodeWire_port hd
  have hn : isNamed s.st = true := by cases hs : s.st <;> simp_all [isPoll, isNamed]
  have h1 : s.st ≠ .rrNack := by intro hs; simp [hs, isPoll] at hp
  have h2 : s.st ≠ .wcSend := by intro hs; simp [hs, isPoll] at hp
  subst he
  cases i <;>
    simp_all [Instr.port, exec, execAckFrame, execNackFrame, execDataH2D, execDataD2H, onWire_named]

/-- The frame part of a ready answer. -/
theorem ready_bytes {mask : Byte} {n : Nat} {a : Answer} (h : ready mask n a = true) : n ≤ a.bytes.length := by
  simp only [ready, Bool.and_eq_true, decide_eq_true_eq] at h
  exact h.1.2

/-- A poll state issues one read; a ready answer goes whole to RXBUF and is checked, any other is discarded (R81, R83). -/
theorem block_poll {s : State} (h : isPoll s.st = true) :
    runFetched (blockMove s) = .next (if ready s.params.readyMask (readSize s) (nextAnswer s) = true then
      checkAnswer (latchRx (busRead s (readSize s)) ((nextAnswer s).bytes.take (readSize s)))
        ((nextAnswer s).bytes.take (readSize s))
      else notReady (busRead s (readSize s))) := by
  have hb : blockMove s = fetchPoll s := by
    unfold blockMove
    cases hs : s.st <;> simp_all [isPoll]
  rw [hb]
  unfold fetchPoll
  simp only
  split
  · rename_i hr
    obtain ⟨h7, _⟩ := readSize_bounds h
    have hlen := ready_bytes hr
    generalize ha : nextAnswer s = a at *
    generalize hn : readSize s = n at *
    obtain ⟨b0, bs, hbs⟩ : ∃ b0 bs, a.bytes = b0 :: bs := by
      cases hbs : a.bytes with
      | nil => simp [hbs] at hlen; omega
      | cons b0 bs => exact ⟨b0, bs, rfl⟩
    have hf : (a.bytes.take n).drop 1 = bs.take (n - 1) := by
      rw [hbs]
      obtain ⟨m, rfl⟩ : ∃ m, n = m + 1 := ⟨n - 1, by omega⟩
      simp
    have hr : a.bytes.take n = b0 :: bs.take (n - 1) := by
      rw [hbs]
      obtain ⟨m, rfl⟩ : ∃ m, n = m + 1 := ⟨n - 1, by omega⟩
      simp
    have hl : bs.length + 1 = a.bytes.length := by rw [hbs]; rfl
    have hrec : receiveFrame (latchRx (busRead s n) [byteAt a.bytes 0]) (bs.take (n - 1)) =
        checkAnswer (latchRx (busRead s n) (b0 :: bs.take (n - 1))) (b0 :: bs.take (n - 1)) := by
      have hsz : readSize (latchRx (busRead s n) [byteAt a.bytes 0]) = n := by
        rw [← hn]; simp [readSize]
      unfold receiveFrame
      rw [hsz, if_neg (by omega), if_neg (by simp; omega)]
      simp only [hbs, latchRx_rxBuf, byteAt_overlay_cons_zero, List.take_take, Nat.min_self, byteAt_cons_zero]
      congr 1
      simp only [latchRx, busRead_rxBuf]
      rw [overlay_overlay _ (by simp)]
    rw [hf, hr, ← hrec]
    split
    · rename_i hd
      exact exec_frame_eq_receive (by simpa using h) hd
    · rfl
  · rfl

end Sys2Proof.Machine
end

