-- ==== Sys2Proof/Tests/Slice0.lean ====
section
/-! SUPPORT. The model's own tests: what the well-formedness check refuses, words written out from the spec's encodings, the
worked examples of 95_test_vectors.md one step at a time, and for every statement with hypotheses a state and operands that
meet them all. -/

set_option Elab.async false

namespace Sys2Proof.Tests

open Sys2Proof Sys2Proof.Machine

/-! ### Well-formedness: an ill-formed term for each check -/

theorem test_long_header_is_ill_formed : (Instr.writeCommand (List.replicate 256 0) []).wellFormed = false := by
  decide +kernel

theorem test_long_body_is_ill_formed : (Instr.writeCommand [2] (List.replicate 256 0)).wellFormed = false := by
  decide +kernel

theorem test_long_h2d_frame_is_ill_formed : (Instr.dataH2D 1 255 (List.replicate 257 0)).wellFormed = false := by
  decide +kernel

theorem test_long_d2h_frame_is_ill_formed : (Instr.dataD2H 1 255 (List.replicate 257 0)).wellFormed = false := by
  decide +kernel

theorem test_longest_request_is_well_formed :
    (Instr.writeCommand (List.replicate 255 0) (List.replicate 255 0)).wellFormed = true := by decide +kernel

/-! ### Decoding: every constructor by bytes written out from its encoding -/

/-- R53, vector H1: descriptor 00000000. -/
theorem test_decode_begin : decodeHost [0x00, 0x00, 0x00, 0x00] = .ok .beginOp [] := by decide

/-- R53, vector H2: descriptor 00000001, low byte first. -/
theorem test_decode_wakeup : decodeHost [0x01, 0x00, 0x00, 0x00] = .ok .wakeup [] := by decide

/-- Program P2: Q = 00020102, data 4A 01 00. -/
theorem test_decode_write_command :
    decodeHost (descriptorBytes 0x00020102 ++ [0x4A, 0x01, 0x00]) = .ok (.writeCommand [0x4A] [0x01, 0x00]) [] := by
  decide

/-- Vector H4: Q = 00641003 is CAP 10h, TMO 0064h. -/
theorem test_decode_read_response :
    decodeHost (descriptorBytes 0x00641003) = .ok (.readResponse 0x10 0x0064) [] := by decide

/-- R65: the ack frame. -/
theorem test_decode_ack : decodeWire [0x00, 0x00, 0xFF, 0x00, 0xFF, 0x00] = .ok .ackFrame [] := by decide

/-- R66: the redelivery request. -/
theorem test_decode_nack : decodeWire [0x00, 0x00, 0xFF, 0xFF, 0x00] = .ok .nackFrame [] := by decide

/-- Vector E1: the command frame of hdr=[02]. -/
theorem test_decode_h2d : decodeWire [0x00, 0x00, 0xFF, 0x02, 0xFE, 0xD4, 0x02, 0x2A, 0x00] =
    .ok (.dataH2D 0x02 0xFE [0x02, 0x2A, 0x00]) [] := by decide

/-- Vector F1: the response frame FW. -/
theorem test_decode_d2h :
    decodeWire [0x00, 0x00, 0xFF, 0x06, 0xFA, 0xD5, 0x03, 0x32, 0x01, 0x06, 0x07, 0xE8, 0x00] =
      .ok (.dataD2H 0x06 0xFA [0x03, 0x32, 0x01, 0x06, 0x07, 0xE8, 0x00]) [] := by decide

/-- Vectors H5 to H9: reserved descriptors are rejected with their operation code. -/
theorem test_decode_reserved :
    decodeHost (descriptorBytes 0x00000004) = .error (.reserved 0x04) ∧
    decodeHost (descriptorBytes 0x000000FF) = .error (.reserved 0xFF) ∧
    decodeHost (descriptorBytes 0x00000100) = .error (.reserved 0x00) ∧
    decodeHost (descriptorBytes 0x80000001) = .error (.reserved 0x01) ∧
    decodeHost (descriptorBytes 0x01000102 ++ [0x02]) = .error (.reserved 0x02) := by decide

/-- R69: bytes with another direction byte are no frame of the table. -/
theorem test_decode_no_frame : decodeWire [0x00, 0x00, 0xFF, 0x06, 0x00, 0x00] = .error .notAFrame := by decide

/-! ### The codec: vectors E2, E5, G5, F1, F2, F5, F8, F12 -/

/-- Vector E2. -/
theorem test_encode_e2 : encodeFrame [0x4A] [0x01, 0x00] =
    [0x00, 0x00, 0xFF, 0x04, 0xFC, 0xD4, 0x4A, 0x01, 0x00, 0xE1, 0x00] := by decide

/-- Vector E5: a sum of 0 gives DCS 0. -/
theorem test_encode_e5 : encodeFrame [0x2C] [] = [0x00, 0x00, 0xFF, 0x02, 0xFE, 0xD4, 0x2C, 0x00, 0x00] := by decide

/-- Vector G5: the probe looks at the head only. -/
theorem test_probe_g5 : (decodeLength [0x01, 0x00, 0x00, 0xFF, 0x06, 0x00, 0x00]).toOption = some 0x06 := by decide

/-- FW, the read answer of the response to command 02 with payload 32 01 06 07 (95_test_vectors.md). -/
def fw : List Byte := [0x01, 0x00, 0x00, 0xFF, 0x06, 0xFA, 0xD5, 0x03, 0x32, 0x01, 0x06, 0x07, 0xE8, 0x00]

/-- Vector F1. -/
theorem test_full_f1 : decodeFull fw 0x06 0x03 0x10 = .payload [0x32, 0x01, 0x06, 0x07] := by decide

/-- Vectors F2, F8, F12: capacity comes before the payload checksum. -/
theorem test_full_f12 :
    decodeFull fw 0x06 0x03 0x03 = .error .noSpace ∧ decodeFull (fw.set 12 0xE9) 0x06 0x03 0x10 = .badPayload 4 ∧
    decodeFull (fw.set 12 0xE9) 0x06 0x03 0x03 = .error .noSpace := by decide

/-! ### One step of each instruction -/

/-- The state an outcome answers, if it answers one. -/
def nextOf (o : Host.Outcome State Fault Refusal) : Option State :=
  match o with
  | .next t => some t
  | _ => none

theorem exists_next {o : Host.Outcome State Fault Refusal} (h : (nextOf o).isSome = true) : ∃ t, o = .next t := by
  cases o with
  | next t => exact ⟨t, rfl⟩
  | fault f => exact absurd h (by simp [nextOf])
  | refused r => exact absurd h (by simp [nextOf])

/-- A block in control state `st` with LAST_CMD 02, CAP 10h, LEN_D 6, the operation code of that state in OP, all else as after
reset. -/
def at_ (st : St) : State :=
  { State.reset with
    st := st, lastCmd := 0x02, lastCmdValid := true, cap := 0x10, lenD := 0x06,
    op := if inRead st then 0x03 else 0x02 }

/-- A block in the ack poll with scripted answers. -/
def polling (answers : List Answer) : State := { at_ .wcAckPoll with answers := answers }

/-- R95, vector H1: BEGIN ends with 0. -/
theorem test_begin : (nextOf (exec .beginOp State.reset)).map (fun t => (t.st, t.status, t.traffic)) =
    some (.respond, 0, []) := by decide +kernel

/-- R96, vector H2: WAKEUP ends with 0. -/
theorem test_wakeup : (nextOf (exec .wakeup State.reset)).map (fun t => (t.st, t.status, t.op)) =
    some (.respond, 0, 0x01) := by decide +kernel

/-- Vector H3: LAST_CMD 02, TXLEN 9 and the frame of L1.1. -/
theorem test_write_command : (nextOf (exec (.writeCommand [0x02] []) State.reset)).map
      (fun t => (t.st, t.lastCmd, t.txLen, txFrame t)) =
    some (.wcSend, 0x02, 9, [0x00, 0x00, 0xFF, 0x02, 0xFE, 0xD4, 0x02, 0x2A, 0x00]) := by decide +kernel

/-- Vectors H10 and H12: sizes 0 and 255 give -5, LAST_CMD unchanged. -/
theorem test_write_command_sizes :
    (nextOf (exec (.writeCommand [] []) (at_ .idle))).map (fun t => (t.status.toInt, t.lastCmd)) = some (-5, 0x02) ∧
    (nextOf (exec (.writeCommand [0x07] (List.replicate 254 0)) (at_ .idle))).map
      (fun t => (t.status.toInt, t.lastCmd)) = some (-5, 0x02) := by decide +kernel

/-- Vector H4: the length wait starts. -/
theorem test_read_response : (nextOf (exec (.readResponse 0x10 0x0064) (at_ .idle))).map
      (fun t => (t.st, t.cap, t.tmo, t.attempt)) = some (.rrLenPoll, 0x10, 0x0064, 0) := by decide +kernel

/-- Program P6: READ_RESPONSE straight after reset is F_NO_COMMAND. -/
theorem test_read_response_after_reset : exec (.readResponse 0x10 0x0064) State.reset = .fault .noCommand := rfl

/-- Vector W1: the ack ends WRITE_COMMAND with 0. -/
theorem test_ack : (nextOf (exec .ackFrame (at_ .wcAckPoll))).map (fun t => (t.st, t.status)) =
    some (.respond, 0) := by decide +kernel

/-- Vector W11: the redelivery request goes to device 24h. -/
theorem test_nack : (nextOf (exec .nackFrame (at_ .rrNack))).map (fun t => (t.st, t.traffic)) =
    some (.rrDataPoll, [.busWrite 0x24 [0x00, 0x00, 0xFF, 0xFF, 0x00]]) := by decide +kernel

/-- R84's worked example: the write of the command frame. -/
theorem test_h2d : (nextOf (exec (.dataH2D 0x02 0xFE [0x02, 0x2A, 0x00]) (at_ .wcSend))).map
      (fun t => (t.st, t.traffic)) =
    some (.wcAckPoll, [.busWrite 0x24 [0x00, 0x00, 0xFF, 0x02, 0xFE, 0xD4, 0x02, 0x2A, 0x00]]) := by decide +kernel

/-- Vector F1 through the data poll: STATUS 4, OUT = 32 01 06 07. -/
theorem test_d2h_data :
    (nextOf (exec (.dataD2H 0x06 0xFA [0x03, 0x32, 0x01, 0x06, 0x07, 0xE8, 0x00]) (at_ .rrDataPoll))).map
      (fun t => (t.status.toInt, t.out)) = some (4, [(0, 0x32), (1, 0x01), (2, 0x06), (3, 0x07)]) := by decide +kernel

/-- Vector W9: a response frame where the ack is due is INVALID_ACK. -/
theorem test_d2h_for_ack :
    (nextOf (exec (.dataD2H 0x06 0xFA []) (at_ .wcAckPoll))).map (fun t => (t.st, t.status.toInt)) =
      some (.respond, -1) := by decide +kernel

/-! ### One step of the machine -/

/-- Vector W8: status bit 0 clear is not ready; nothing reaches RXBUF. -/
theorem test_step_not_ready :
    (nextOf (step { at_ .wcAckPoll with answers := [⟨true, [0x02, 0x00, 0x00, 0xFF, 0x00, 0xFF, 0x00]⟩] })).map
      (fun t => (t.st, byteAt t.rxBuf 3)) = some (.wcAckDelay, 0x00) := by decide +kernel

/-- Vector W4's last delay: ATTEMPT 9 becomes ten and TIMEOUT is raised. -/
theorem test_step_timeout :
    (nextOf (step { at_ .wcAckDelay with attempt := 9 })).map (fun t => (t.st, t.status.toInt, t.attempt)) =
      some (.respond, -2, 10) := by decide +kernel

/-- Vector H5: a reserved descriptor gets -5 with no traffic. -/
theorem test_step_reserved :
    (nextOf (step { at_ .idle with requests := [⟨0x00000004, []⟩] })).map
      (fun t => (t.st, t.status.toInt, t.op, t.traffic)) = some (.respond, -5, 0x04, []) := by decide +kernel

/-- R109: the host takes STATUS and the block is IDLE. -/
theorem test_step_respond :
    (nextOf (step { at_ .respond with status := 4 })).map (fun t => (t.st, t.responses)) = some (.idle, [4]) := by
  decide +kernel

/-- R110, U15: an unused control state is F_BAD_STATE, whoever would move. -/
theorem test_step_unused :
    step (at_ (.unused 0)) = .fault .badState ∧
    step { at_ (.unused 0) with schedule := [.wait] } = .fault .badState ∧
    step { at_ (.unused 0) with schedule := [.hostWritesOut 0 0x55] } = .fault .badState := ⟨rfl, rfl, rfl⟩

/-- R131: an unanswered request leaves the block as it is, and the schedule with it. -/
theorem test_step_never :
    (nextOf (step { at_ .wcAckPoll with schedule := [.never, .block] })).map (fun t => (t.st, t.schedule, t.traffic)) =
      some (.wcAckPoll, [.never, .block], []) := by decide +kernel

/-- R118, U6: a reset in READ_RESPONSE loses OUT's bytes, each index then holding some value; a reset in WRITE_COMMAND keeps
them. -/
theorem test_step_reset :
    (nextOf (step { at_ .rrDataPoll with schedule := [.reset], out := [(0, 0x55)] })).map
      (fun t => (t.st, t.out.length)) = some (.idle, 255) ∧
    (nextOf (step { at_ .wcAckPoll with schedule := [.reset], out := [(0, 0x55)] })).map (fun t => (t.st, t.out)) =
      some (.idle, [(0, 0x55)]) := by decide +kernel

/-- The table words run as the first instruction after reset: BEGIN and an ACK frame. -/
theorem test_fetch_words :
    (nextOf (step (State.reset.withFetchWord 32 0x00000000))).map (·.st) = some .respond ∧
    (nextOf (step (State.reset.withFetchWord 48 0x0000FF00FF00))).map (fun t => (t.st, t.status)) =
      some (.respond, 0) := by decide +kernel

/-- A block in the length wait with a timeout and scripted answers. -/
def waiting (tmo : Half) (answers : List Answer) : State := { at_ .rrLenPoll with tmo := tmo, answers := answers }

/-! ### Witnesses: the hypotheses of each statement are met -/

theorem witness_DecodeOfEncodeIsTheInstruction : (Instr.readResponse 0xFF 0xFFFF).wellFormed = true := by decide

theorem witness_HostDecodeLosesNoByte :
    decodeHost [0x02, 0x01, 0x01, 0x00, 0x4A, 0x01, 0x77] = .ok (.writeCommand [0x4A] [0x01]) [0x77] := by decide

theorem witness_OperationCodesAndOperandFields :
    ((0xFFFF02 : Descriptor).extractLsb' 0 8 = 0x02 ∧ (0xFFFF02 : Descriptor).extractLsb' 24 8 = 0 ∧
      (List.replicate 510 (0 : Byte)).length =
        ((0xFFFF02 : Descriptor).extractLsb' 8 8).toNat + ((0xFFFF02 : Descriptor).extractLsb' 16 8).toNat) ∧
    (0xFFFF0003 : Descriptor).extractLsb' 0 8 = 0x03 := by decide +kernel

theorem witness_DataFrameLayout : (List.replicate 254 (0 : Byte)).length ≤ 254 ∧ ([] : List Byte).length ≤ 254 := by
  decide +kernel

theorem witness_ChecksumsCancel : ([0x02, 0xFF] : List Byte).length ≤ 254 := by decide

theorem witness_ParseOfEncodeIsHeaderAndBody :
    ([0x00] : List Byte).length + (List.replicate 253 (0 : Byte)).length ≤ 254 := by decide +kernel

/-- FW meets the first part; the empty payload (vector F15) and the longest payload meet the second. -/
theorem witness_DecodeFullSucceedsExactlyOnValidFrames :
    (fw.length = (0x06 : Byte).toNat + 8 ∧ decodeFull fw 0x06 0x03 0x04 = .payload [0x32, 0x01, 0x06, 0x07]) ∧
    ([] : List Byte).length ≤ 253 ∧ (List.replicate 253 (0 : Byte)).length ≤ 253 := by decide +kernel

/-- FW; its frame bytes are R[1] to R[12], its POSTAMBLE R[13]. -/
theorem witness_SingleByteCorruptionIsDetected :
    fw.length = (0x06 : Byte).toNat + 8 ∧ decodeFull fw 0x06 0x03 0x10 = .payload [0x32, 0x01, 0x06, 0x07] ∧
    (0xD4 : Byte) ≠ byteAt fw 6 ∧ 12 ≤ (0x06 : Byte).toNat + 6 ∧ (0x02 : Byte) &&& 0x01 = 0 := by decide

theorem witness_DecodeLengthChecksTheHeadOnly :
    (byteAt fw 1 = 0x00 ∧ byteAt fw 2 = 0x00 ∧ byteAt fw 3 = 0xFF) ∧
    ¬(byteAt (fw.set 3 0xFE) 1 = 0x00 ∧ byteAt (fw.set 3 0xFE) 2 = 0x00 ∧ byteAt (fw.set 3 0xFE) 3 = 0xFF) := by decide

theorem witness_BeginAndWakeupOnlyFinish : State.reset.st = .idle := rfl

theorem witness_WriteCommandBuildsTheFrame :
    State.reset.st = .idle ∧ 1 ≤ ([0x02] : List Byte).length ∧
    ([0x02] : List Byte).length + (List.replicate 253 (0 : Byte)).length ≤ 254 := by decide +kernel

theorem witness_WriteCommandSizesAreChecked :
    State.reset.st = .idle ∧ ([] : List Byte).length = 0 ∧
    ([0x02] : List Byte).length + (List.replicate 254 (0 : Byte)).length > 254 := by decide +kernel

theorem witness_ReadResponseStartsTheLengthWait : (at_ .idle).st = .idle ∧ (at_ .idle).lastCmdValid = true := by decide

theorem witness_ReadResponseNeedsACommand : State.reset.st = .idle ∧ State.reset.lastCmdValid = false := by decide

/-- Each of R55's three kinds, one of them on the host port, and a descriptor that is not reserved. -/
theorem witness_ReservedDescriptorsAreRefused :
    (({ at_ .idle with requests := [⟨0x01000102, [0x02]⟩] } : State).st = .idle ∧
      ({ at_ .idle with requests := [⟨0x01000102, [0x02]⟩] } : State).schedule = [] ∧
      ({ at_ .idle with requests := [⟨0x01000102, [0x02]⟩] } : State).requests = ⟨0x01000102, [0x02]⟩ :: [] ∧
      ReservedDescriptor 0x01000102) ∧
    ReservedDescriptor 0x00000004 ∧ ReservedDescriptor 0x00000100 ∧ ReservedDescriptor 0x80000001 ∧
    ¬ReservedDescriptor 0xFFFF0003 := by decide

theorem witness_BusyBlockKeepsRequestsWaiting :
    (Instr.beginOp.port = .host ∧ (at_ .respond).st ≠ .idle ∧ isNamed (at_ .respond).st = true) ∧
    ∃ t, step (at_ .respond) = .next t :=
  ⟨by decide, exists_next (by decide +kernel)⟩

theorem witness_CommandFrameGoesOutInOneWrite : (at_ .wcSend).st = .wcSend ∧ (at_ .wcSend).schedule = [] := by decide

theorem witness_RedeliveryRequestGoesOut : (at_ .rrNack).st = .rrNack := rfl

theorem witness_AckFrameEndsTheAckWait : (at_ .wcAckPoll).st = .wcAckPoll := rfl

/-- Ready answers for the ack poll: the ack (vector W7's status byte), and one with a wrong last byte (vector W6). -/
theorem witness_AckPollComparesSixBytes :
    (polling [⟨true, [0x03, 0x00, 0x00, 0xFF, 0x00, 0xFF, 0x00]⟩]).st = .wcAckPoll ∧
    (polling [⟨true, [0x03, 0x00, 0x00, 0xFF, 0x00, 0xFF, 0x00]⟩]).schedule = [] ∧
    ready (polling []).params.readyMask 7
      (nextAnswer (polling [⟨true, [0x03, 0x00, 0x00, 0xFF, 0x00, 0xFF, 0x00]⟩])) = true ∧
    ready (polling []).params.readyMask 7
      (nextAnswer (polling [⟨true, [0x01, 0x00, 0x00, 0xFF, 0x00, 0xFF, 0x01]⟩])) = true := by decide +kernel

theorem witness_ProbeTakesTheDeclaredLength : (at_ .rrLenPoll).st = .rrLenPoll := rfl

theorem witness_ValidResponseIsDelivered :
    (at_ .rrDataPoll).st = .rrDataPoll ∧ (at_ .rrDataPoll).outRaced = false ∧
    ([0x32, 0x01, 0x06, 0x07] : List Byte).length ≤ 253 ∧
    ([0x32, 0x01, 0x06, 0x07] : List Byte).length ≤ (at_ .rrDataPoll).cap.toNat ∧
    (at_ .rrDataPoll).lenD.toNat = ([0x32, 0x01, 0x06, 0x07] : List Byte).length + 2 ∧
    encode (.dataD2H 0x06 0xFA [0x03, 0x32, 0x01, 0x06, 0x07, 0xE8, 0x00]) =
      frameBuild 0xD5 (expectedCode (at_ .rrDataPoll).lastCmd :: [0x32, 0x01, 0x06, 0x07]) := by decide +kernel

/-- Vectors F6 (command code) and F8 (payload checksum). -/
theorem witness_RejectedResponseLeavesOut :
    (at_ .rrDataPoll).st = .rrDataPoll ∧
    (at_ .rrDataPoll).lenD.toNat + 1 ≤ ([0x03, 0x32, 0x01, 0x06, 0x07, 0xE9, 0x00] : List Byte).length ∧
    decodeFull (byteAt (at_ .rrDataPoll).rxBuf 0 ::
        (encode (.dataD2H 0x06 0xFA [0x04, 0x32, 0x01, 0x06, 0x07, 0xE8, 0x00])).take ((at_ .rrDataPoll).lenD.toNat + 7))
      (at_ .rrDataPoll).lenD (expectedCode (at_ .rrDataPoll).lastCmd) (at_ .rrDataPoll).cap = .error .invalidFrame ∧
    decodeFull (byteAt (at_ .rrDataPoll).rxBuf 0 ::
        (encode (.dataD2H 0x06 0xFA [0x03, 0x32, 0x01, 0x06, 0x07, 0xE9, 0x00])).take ((at_ .rrDataPoll).lenD.toNat + 7))
      (at_ .rrDataPoll).lenD (expectedCode (at_ .rrDataPoll).lastCmd) (at_ .rrDataPoll).cap = .badPayload 4 := by
  decide +kernel

theorem witness_FramesNobodyReadsChangeNothing :
    isNamed (at_ .idle).st = true ∧ isPoll (at_ .idle).st = false ∧ (at_ .idle).st ≠ .rrNack ∧
    (at_ .idle).st ≠ .wcSend := by decide

theorem witness_HostOperationsLeaveTheRest :
    Instr.wakeup.port = .host ∧ ∃ t, exec .wakeup (at_ .idle) = .next t :=
  ⟨rfl, exists_next (by decide +kernel)⟩

theorem witness_WireFramesLeaveTheRest :
    Instr.ackFrame.port = .wire ∧ ∃ t, exec .ackFrame (at_ .wcAckPoll) = .next t :=
  ⟨rfl, exists_next (by decide +kernel)⟩

theorem witness_StepRunsTheHostRequest :
    ({ at_ .idle with requests := [⟨0x00000102, [0x02]⟩] } : State).st = .idle ∧
    ({ at_ .idle with requests := [⟨0x00000102, [0x02]⟩] } : State).schedule = [] ∧
    ({ at_ .idle with requests := [⟨0x00000102, [0x02]⟩] } : State).requests = ⟨0x00000102, [0x02]⟩ :: [] ∧
    decodeHost (requestBytes (at_ .idle).draws ⟨0x00000102, [0x02]⟩) = .ok (.writeCommand [0x02] []) [] := by
  decide +kernel

theorem witness_StepRunsTheReceivedFrame :
    isPoll (polling [⟨true, 0x01 :: ackBytes⟩]).st = true ∧ (polling [⟨true, 0x01 :: ackBytes⟩]).schedule = [] ∧
    ready (polling [⟨true, 0x01 :: ackBytes⟩]).params.readyMask (readSize (polling [⟨true, 0x01 :: ackBytes⟩]))
      (nextAnswer (polling [⟨true, 0x01 :: ackBytes⟩])) = true ∧
    decodeWire (((nextAnswer (polling [⟨true, 0x01 :: ackBytes⟩])).bytes.take
      (readSize (polling [⟨true, 0x01 :: ackBytes⟩]))).drop 1) = .ok .ackFrame [] := by decide +kernel

/-- A block in WC_SEND with the frame of L1.1 in TXBUF. -/
def sending : State :=
  { latchTx (at_ .wcSend) [0x00, 0x00, 0xFF, 0x02, 0xFE, 0xD4, 0x02, 0x2A, 0x00] with st := .wcSend }

theorem witness_StepRunsTheFramesItSends :
    (sending.st = .wcSend ∧ sending.schedule = [] ∧
      decodeWire (txFrame sending) = .ok (.dataH2D 0x02 0xFE [0x02, 0x2A, 0x00]) []) ∧
    (at_ .rrNack).st = .rrNack ∧ (at_ .rrNack).schedule = [] := by decide +kernel

/-- A failed read: without a limit (TMO = 0), below a limit, and at the limit. -/
theorem witness_NotReadyPollIsDiscarded :
    (isPoll (polling [⟨false, []⟩]).st = true ∧ (polling [⟨false, []⟩]).schedule = [] ∧
      ready (polling [⟨false, []⟩]).params.readyMask (readSize (polling [⟨false, []⟩]))
        (nextAnswer (polling [⟨false, []⟩])) = false) ∧
    pollLimit (at_ .rrLenPoll) = 0 ∧
    ((polling []).attempt.toNat + 1 ≠ pollLimit (polling []) ∧ pollLimit (polling []) ≠ 0) ∧
    ({ polling [] with attempt := 9 } : State).attempt.toNat + 1 = pollLimit { polling [] with attempt := 9 } := by
  decide +kernel

theorem witness_OneTransactionForEachMove :
    (at_ .rrDataDelay).schedule = [] ∧ ∃ t, step (at_ .rrDataDelay) = .next t :=
  ⟨rfl, exists_next (by decide +kernel)⟩

/-- A step with a request: WRITE_COMMAND accepted. -/
theorem witness_OnlyWriteCommandWritesLastCmd :
    (∃ t, step { at_ .idle with requests := [⟨0x00000102, [0x07]⟩] } = .next t) ∧
    (nextOf (step { at_ .idle with requests := [⟨0x00000102, [0x07]⟩] })).map (·.lastCmd) = some 0x07 :=
  ⟨exists_next (by decide +kernel), by decide +kernel⟩

theorem witness_StatusChangesOnlyIntoRespond :
    (∃ t, step (at_ .rrNack) = .next t) ∧ (nextOf (step (at_ .rrNack))).map (·.st) = some .rrDataPoll :=
  ⟨exists_next (by decide +kernel), by decide +kernel⟩

theorem witness_OneResponseForEachRespond :
    (∃ t, step (at_ .respond) = .next t) ∧ (nextOf (step (at_ .respond))).map (·.st) = some .idle ∧
    (at_ .respond).st = .respond ∧ (at_ .respond).schedule = [] ∧
    ({ at_ .respond with schedule := [.block, .wait] } : State).schedule = .block :: [.wait] :=
  ⟨exists_next (by decide +kernel), by decide +kernel⟩

/-- Vector F1's data poll changes OUT. -/
theorem witness_OutIsWrittenBelowCapacityOnly :
    (∃ t, step { at_ .rrDataPoll with answers := [⟨true, fw⟩] } = .next t) ∧
    (nextOf (step { at_ .rrDataPoll with answers := [⟨true, fw⟩] })).map (fun t => outRead t.out 3) =
      some (some 0x07) :=
  ⟨exists_next (by decide +kernel), by decide +kernel⟩

theorem witness_StepsKeepTheParameters : ∃ t, step (at_ .idle) = .next t := exists_next (by decide +kernel)

/-- Both faults are reached, with the schedule used up and with the block's move scheduled, F_BAD_STATE at a reset too. -/
theorem witness_FaultsAreTheTwoModelFaults :
    step (at_ (.unused 5)) = .fault .badState ∧
    step { at_ (.unused 5) with schedule := [.block] } = .fault .badState ∧
    step { at_ (.unused 0) with schedule := [.reset] } = .fault .badState ∧
    step { State.reset with requests := [⟨0x00641003, []⟩] } = .fault .noCommand ∧
    step { State.reset with requests := [⟨0x00641003, []⟩], schedule := [.block, .wait] } = .fault .noCommand :=
  ⟨rfl, rfl, rfl, rfl, rfl⟩

/-- Reset with a READ_RESPONSE in flight, and without. -/
theorem witness_ResetEventAbandonsTheOperation :
    isNamed (at_ .rrDataPoll).st = true ∧ isNamed (at_ .wcAckPoll).st = true ∧
    ({ at_ .rrDataPoll with schedule := [.reset] } : State).schedule = .reset :: [] ∧
    readRunning { at_ .rrDataPoll with schedule := [.reset] } = true ∧
    readRunning { at_ .wcAckPoll with schedule := [.reset] } = false := by decide

theorem witness_HostWriteDuringReadSpoilsOut :
    isNamed (at_ .rrDataPoll).st = true ∧ isNamed (at_ .idle).st = true ∧
    ({ at_ .rrDataPoll with schedule := [.hostWritesOut 0 0x55] } : State).schedule = .hostWritesOut 0 0x55 :: [] ∧
    inRead (at_ .rrDataPoll).st = true ∧ readRunning (at_ .idle) = false := by decide

/-- The invariant holds in WC_SEND with a frame ready, in a data wait and in RESPOND, and each of them steps. -/
theorem witness_StepKeepsTheInvariant :
    (Inv sending ∧ ∃ t, step sending = .next t) ∧ (Inv (at_ .rrDataDelay) ∧ ∃ t, step (at_ .rrDataDelay) = .next t) ∧
    (Inv (at_ .respond) ∧ ∃ t, step (at_ .respond) = .next t) :=
  ⟨⟨by decide +kernel, exists_next (by decide +kernel)⟩, ⟨by decide +kernel, exists_next (by decide +kernel)⟩,
    ⟨by decide +kernel, exists_next (by decide +kernel)⟩⟩

/-- Two states that differ in every register that is dead in the data wait. -/
theorem witness_DeadRegistersNeverMatter :
    SameLive (at_ .rrDataDelay)
      { at_ .rrDataDelay with hlen := 1, blen := 2, status := 3, txBuf := [], txLen := 7, rxBuf := [] } ∧
    SameLive State.reset
      { State.reset with op := 9, cap := 9, tmo := 9, attempt := 9, lenD := 9, lastCmd := 0x55 } ∧
    ∃ t, step (at_ .rrDataDelay) = .next t :=
  ⟨by decide +kernel, ⟨by decide +kernel, exists_next (by decide +kernel)⟩⟩

/-- A length wait with TMO = 1: one failed poll, and poll 0 ready. -/
theorem witness_PollPhaseIsBounded :
    (isPoll (waiting 1 [⟨false, []⟩]).st = true ∧ (waiting 1 [⟨false, []⟩]).schedule = [] ∧
      (waiting 1 [⟨false, []⟩]).attempt = 0 ∧ pollLimit (waiting 1 [⟨false, []⟩]) ≠ 0 ∧
      pollLimit (waiting 1 [⟨false, []⟩]) ≤ 65535 ∧
      nextNotReady (waiting 1 [⟨false, []⟩]).params.readyMask (readSize (waiting 1 [⟨false, []⟩]))
        (pollLimit (waiting 1 [⟨false, []⟩])) (waiting 1 [⟨false, []⟩]).answers = true) ∧
    (0 < pollLimit (waiting 1 [⟨true, fw⟩]) ∧
      nextNotReady (waiting 1 [⟨true, fw⟩]).params.readyMask (readSize (waiting 1 [⟨true, fw⟩])) 0
        (waiting 1 [⟨true, fw⟩]).answers = true ∧
      (waiting 1 [⟨true, fw⟩]).answers[0]? = some ⟨true, fw⟩ ∧
      ready (waiting 1 [⟨true, fw⟩]).params.readyMask (readSize (waiting 1 [⟨true, fw⟩])) ⟨true, fw⟩ = true) := by
  decide +kernel

/-- TMO = 0: a failed read, a short one, then the probe's answer; and a schedule with waits between the block's moves. -/
theorem witness_ZeroTimeoutWaitsWithoutLimit :
    onlyBlockAndWait [.wait, .block, .wait, .wait, .block, .block, .block] = true ∧
    ([.wait, .block, .wait, .wait, .block, .block, .block] : List Move).count .block = 2 * 2 ∧
    ([.wait, .block, .wait, .wait, .block, .block, .block, .block, .wait] : List Move).count .block = 2 * 2 + 1 ∧
    (waiting 0 [⟨false, []⟩, ⟨true, [0x01]⟩, ⟨true, fw⟩]).st = .rrLenPoll ∧
    (waiting 0 [⟨false, []⟩, ⟨true, [0x01]⟩, ⟨true, fw⟩]).schedule = [] ∧
    (waiting 0 [⟨false, []⟩, ⟨true, [0x01]⟩, ⟨true, fw⟩]).tmo = 0 ∧
    nextNotReady (waiting 0 []).params.readyMask (readSize (waiting 0 [])) 2
      (waiting 0 [⟨false, []⟩, ⟨true, [0x01]⟩, ⟨true, fw⟩]).answers = true ∧
    (waiting 0 [⟨false, []⟩, ⟨true, [0x01]⟩, ⟨true, fw⟩]).answers[2]? = some ⟨true, fw⟩ ∧
    ready (waiting 0 []).params.readyMask (readSize (waiting 0 [])) ⟨true, fw⟩ = true := by decide +kernel

/-- Vector W1 through the phases. -/
theorem witness_WriteCommandStepsFollowThePhases :
    ({ sending with answers := [⟨true, []⟩, ⟨true, 0x01 :: ackBytes⟩] } : State).st = .wcSend ∧
    ({ sending with answers := [⟨true, []⟩, ⟨true, 0x01 :: ackBytes⟩] } : State).schedule = [] ∧
    (writeCommandPhases 1 { sending with answers := [⟨true, []⟩, ⟨true, 0x01 :: ackBytes⟩] }).isSome = true := by
  decide +kernel

/-- Vector W11 through the phases. -/
theorem witness_ReadResponseStepsFollowThePhases :
    (waiting 1 [⟨true, fw.take 7⟩, ⟨true, []⟩, ⟨true, fw⟩]).st = .rrLenPoll ∧
    (waiting 1 [⟨true, fw.take 7⟩, ⟨true, []⟩, ⟨true, fw⟩]).attempt = 0 ∧
    (waiting 1 [⟨true, fw.take 7⟩, ⟨true, []⟩, ⟨true, fw⟩]).schedule = [] ∧
    (readResponsePhases 1 (waiting 1 [⟨true, fw.take 7⟩, ⟨true, []⟩, ⟨true, fw⟩])).isSome = true := by decide +kernel

/-- Program P1's exchange: header 02, payload 32 01 06 07; its requests and its response are the spec's. -/
def exchange : State :=
  { at_ .idle with
    requests := [⟨0x00000102, [0x02]⟩, ⟨0x00641003, []⟩]
    answers := [⟨true, []⟩, ⟨true, 0x01 :: ackBytes⟩, ⟨true, fw.take 7⟩, ⟨true, []⟩, ⟨true, fw⟩] }

theorem witness_WholeExchangeDeliversThePayload :
    exchange.st = .idle ∧ exchange.schedule = [] ∧ 1 ≤ ([0x02] : List Byte).length ∧
    ([0x02] : List Byte).length + ([] : List Byte).length ≤ 254 ∧
    ([0x32, 0x01, 0x06, 0x07] : List Byte).length ≤ 253 ∧
    ([0x32, 0x01, 0x06, 0x07] : List Byte).length ≤ (0x10 : Byte).toNat ∧
    statusReady exchange.params.readyMask 0x01 = true ∧
    exchange.requests = [requestOf (.writeCommand [0x02] []), requestOf (.readResponse 0x10 0x0064)] ∧
    exchange.answers = [⟨true, []⟩, ⟨true, 0x01 :: ackBytes⟩,
      ⟨true, 0x01 :: (frameBuild 0xD5 (expectedCode (byteAt [0x02] 0) :: [0x32, 0x01, 0x06, 0x07])).take 6⟩, ⟨true, []⟩,
      ⟨true, 0x01 :: frameBuild 0xD5 (expectedCode (byteAt [0x02] 0) :: [0x32, 0x01, 0x06, 0x07])⟩] := by
  decide +kernel

/-- Program P3: X = 4A, Y = 14, and the empty response to Y; the code 4B in place of 15 is the stale one. -/
def pairing (code : Byte) : State :=
  { at_ .idle with
    requests := [⟨0x00020102, [0x4A, 0x01, 0x00]⟩, ⟨0x00030102, [0x14, 0x01, 0x14, 0x01]⟩, ⟨0x000A1403, []⟩]
    answers := [⟨true, []⟩, ⟨true, 0x01 :: ackBytes⟩, ⟨true, []⟩, ⟨true, 0x01 :: ackBytes⟩,
      ⟨true, 0x01 :: (frameBuild 0xD5 [code]).take 6⟩, ⟨true, []⟩, ⟨true, 0x01 :: frameBuild 0xD5 [code]⟩] }

theorem witness_ResponseAnswersTheLatestCommand :
    (pairing 0x15).st = .idle ∧ (pairing 0x15).schedule = [] ∧ 1 ≤ ([0x4A] : List Byte).length ∧
    ([0x4A] : List Byte).length + ([0x01, 0x00] : List Byte).length ≤ 254 ∧ 1 ≤ ([0x14] : List Byte).length ∧
    ([0x14] : List Byte).length + ([0x01, 0x14, 0x01] : List Byte).length ≤ 254 ∧
    ([] : List Byte).length ≤ 253 ∧ ([] : List Byte).length ≤ (0x14 : Byte).toNat ∧
    statusReady (pairing 0x15).params.readyMask 0x01 = true ∧
    (pairing 0x15).requests = [requestOf (.writeCommand [0x4A] [0x01, 0x00]),
      requestOf (.writeCommand [0x14] [0x01, 0x14, 0x01]), requestOf (.readResponse 0x14 0x000A)] ∧
    (0x15 : Byte) = byteAt [0x14] 0 + 1 ∧ (0x4B : Byte) ≠ byteAt [0x14] 0 + 1 ∧
    ([⟨0x00020102, [0x4A, 0x01, 0x00]⟩, ⟨0x000A1403, []⟩] : List Request) =
      [requestOf (.writeCommand [0x4A] [0x01, 0x00]), requestOf (.readResponse 0x14 0x000A)] := by decide +kernel

theorem witness_ScheduledBlockMoveIsTheFreeMove :
    ({ at_ .rrNack with schedule := [.block, .reset] } : State).schedule = .block :: [.reset] ∧
    (∃ t, step { at_ .rrNack with schedule := [] } = .next t) ∧
    step { at_ (.unused 5) with schedule := [] } = .fault .badState :=
  ⟨rfl, exists_next (by decide +kernel), rfl⟩

theorem witness_WaitsChangeOnlyTheSchedule :
    isNamed (at_ .rrDataPoll).st = true ∧
    ({ at_ .rrDataPoll with schedule := [.wait, .wait, .block] } : State).schedule =
      List.replicate 2 .wait ++ [.block] := ⟨rfl, rfl⟩

theorem witness_UnansweredRequestIsStuck :
    isNamed (at_ .wcAckPoll).st = true ∧
    ({ at_ .wcAckPoll with schedule := [.wait, .never] } : State).schedule = List.replicate 1 .wait ++ .never :: [] :=
  ⟨rfl, rfl⟩

/-- A data wait with TMO = 0, and IDLE with a request. -/
theorem witness_StatesAreLeftOnlyByTheirAnswer :
    ((∃ t, step (at_ .rrDataDelay) = .next t) ∧ (at_ .rrDataDelay).schedule.head? ≠ some .reset ∧
      inResponseWait (at_ .rrDataDelay).st = true ∧ (at_ .rrDataDelay).tmo = 0) ∧
    (nextOf (step { at_ .idle with requests := [⟨0, []⟩] })).map (·.st) = some .respond :=
  ⟨⟨exists_next (by decide +kernel), by decide⟩, by decide +kernel⟩

end Sys2Proof.Tests
end

section
/-! PROOFS. What accepting a request and the block's own move can do, each said once, and from it: no step changes the
implementation parameters (R8, R17). -/

namespace Sys2Proof.Machine

open Sys2Proof

/-! ### What accepting a host operation can do (R94 to R101) -/

/-- Everything BEGIN can do. -/
theorem execBegin_cases {s t : State} (h : execBegin s = .next t) :
    (s.st = .idle ∧ t = finish { s with op := 0x00 } 0) ∨ (s.st ≠ .idle ∧ isNamed s.st = true ∧ t = s) := by
  obtain ⟨hst, hk⟩ | hbusy := accept_cases h
  · cases hk
    exact .inl ⟨hst, rfl⟩
  · exact .inr hbusy

/-- Everything WAKEUP can do. -/
theorem execWakeup_cases {s t : State} (h : execWakeup s = .next t) :
    (s.st = .idle ∧ t = finish { s with op := 0x01 } 0) ∨ (s.st ≠ .idle ∧ isNamed s.st = true ∧ t = s) := by
  obtain ⟨hst, hk⟩ | hbusy := accept_cases h
  · cases hk
    exact .inl ⟨hst, rfl⟩
  · exact .inr hbusy

/-- Everything WRITE_COMMAND can do: the refused sizes (R97), the frame latched for sending (R98, R99), or a busy block. -/
theorem execWriteCommand_cases {s t : State} {header body : List Byte}
    (h : execWriteCommand header body s = .next t) :
    (s.st = .idle ∧ (header.length = 0 ∨ header.length + body.length > 254) ∧
      t = raise { s with
        op := 0x02, hlen := BitVec.ofNat 8 header.length, blen := BitVec.ofNat 8 body.length } .requestError) ∨
    (s.st = .idle ∧ ¬(header.length = 0 ∨ header.length + body.length > 254) ∧
      t = { latchTx { s with
        op := 0x02, hlen := BitVec.ofNat 8 header.length, blen := BitVec.ofNat 8 body.length,
        lastCmd := byteAt header 0, lastCmdValid := true } (encodeFrame header body) with st := .wcSend }) ∨
    (s.st ≠ .idle ∧ isNamed s.st = true ∧ t = s) := by
  obtain ⟨hst, hk⟩ | hbusy := accept_cases h
  · simp only at hk
    split at hk <;> cases hk
    · exact .inl ⟨hst, ‹_›, rfl⟩
    · exact .inr (.inl ⟨hst, ‹_›, rfl⟩)
  · exact .inr (.inr hbusy)

/-- Everything READ_RESPONSE can do but its model fault: the length wait starts (R100), or the block is busy. -/
theorem execReadResponse_cases {s t : State} {cap : Byte} {tmo : Half} (h : execReadResponse cap tmo s = .next t) :
    (s.st = .idle ∧ s.lastCmdValid = true ∧
      t = { s with op := 0x03, cap := cap, tmo := tmo, attempt := 0, outRaced := false, st := .rrLenPoll }) ∨
    (s.st ≠ .idle ∧ isNamed s.st = true ∧ t = s) := by
  obtain ⟨hst, hk⟩ | hbusy := accept_cases h
  · simp only at hk
    split at hk <;> cases hk
    exact .inl ⟨hst, ‹_›, rfl⟩
  · exact .inr hbusy

/-! ### What a frame on the wire can do (R84 to R88) -/

/-- Everything a wire frame can do: RR_NACK sends the redelivery request and WC_SEND a command frame; otherwise the frame is one
the peer presents, and is received. -/
theorem exec_wire_cases {i : Instr} {s t : State} (hw : i.port = .wire) (h : exec i s = .next t) :
    isNamed s.st = true ∧
    ((i = .nackFrame ∧ s.st = .rrNack ∧ t = redeliver s) ∨
    (∃ len lcs tail, i = .dataH2D len lcs tail ∧ s.st = .wcSend ∧ t = sendFrame s (encode i)) ∨
    ((i = .nackFrame → s.st ≠ .rrNack) ∧ (∀ len lcs tail, i = .dataH2D len lcs tail → s.st ≠ .wcSend) ∧
      t = receiveFrame s (encode i))) := by
  cases i with
  | beginOp | wakeup | writeCommand _ _ | readResponse _ _ => cases hw
  | ackFrame =>
    simp only [exec, execAckFrame] at h
    obtain ⟨hn, rfl⟩ := onWire_cases h
    exact ⟨hn, .inr (.inr ⟨by simp, by simp, rfl⟩)⟩
  | nackFrame =>
    simp only [exec, execNackFrame] at h
    obtain ⟨hn, rfl⟩ := onWire_cases h
    refine ⟨hn, ?_⟩
    by_cases hst : s.st = .rrNack
    · exact .inl ⟨rfl, hst, if_pos hst⟩
    · exact .inr (.inr ⟨fun _ => hst, by simp, if_neg hst⟩)
  | dataH2D len lcs tail =>
    simp only [exec, execDataH2D] at h
    obtain ⟨hn, rfl⟩ := onWire_cases h
    refine ⟨hn, ?_⟩
    by_cases hst : s.st = .wcSend
    · exact .inr (.inl ⟨len, lcs, tail, rfl, hst, if_pos hst⟩)
    · exact .inr (.inr ⟨by simp, fun _ _ _ _ => hst, if_neg hst⟩)
  | dataD2H len lcs tail =>
    simp only [exec, execDataD2H] at h
    obtain ⟨hn, rfl⟩ := onWire_cases h
    exact ⟨hn, .inr (.inr ⟨by simp, by simp, rfl⟩)⟩

/-! ### What the block's own move can do (R20, R89) -/

/-- IDLE waits without a request, and otherwise runs the request it decodes or refuses a reserved one (R20, R55, R94). -/
theorem block_idle_cases {s t : State} (hst : s.st = .idle) (h : runFetched (blockMove s) = .next t) :
    (s.requests = [] ∧ t = s) ∨
    ∃ r rest, s.requests = r :: rest ∧
      ((∃ i extra, decodeHost (requestBytes s.draws r) = .ok i extra ∧
        exec i { s with requests := rest, draws := s.draws + missingData r } = .next t) ∨
      (∃ e, decodeHost (requestBytes s.draws r) = .error e ∧
        t = refuseReserved { s with requests := rest, draws := s.draws + missingData r }
          (r.desc.extractLsb' 0 8))) := by
  have hb : blockMove s = fetchRequest s := by simp only [blockMove, hst]
  rw [hb, fetchRequest] at h
  split at h
  · cases h
    exact .inl ⟨‹_›, rfl⟩
  · refine .inr ⟨_, _, ‹_›, ?_⟩
    split at h
    · exact .inl ⟨_, _, ‹_›, h⟩
    · cases h
      exact .inr ⟨_, ‹_›, rfl⟩

/-! ### No operation changes a parameter (R8) -/

@[simp] theorem sendFrame_params (s : State) (f : List Byte) : (sendFrame s f).params = s.params :=
  busWrite_params s f

@[simp] theorem redeliver_params (s : State) : (redeliver s).params = s.params :=
  busWrite_params s s.params.nack

@[simp] theorem delayStep_params (s : State) : (delayStep s).params = s.params := by
  obtain ⟨-, h⟩ | ⟨-, h⟩ | ⟨-, -, h⟩ := delayStep_cases s <;> simp [h]

/-- A frame on the wire, sent or received, changes no parameter. -/
theorem exec_wire_keeps_params {i : Instr} {s t : State} (hw : i.port = .wire) (h : exec i s = .next t) :
    t.params = s.params := by
  obtain ⟨-, ⟨-, -, rfl⟩ | ⟨-, -, -, -, -, rfl⟩ | ⟨-, -, rfl⟩⟩ := exec_wire_cases hw h
  · exact redeliver_params s
  · exact sendFrame_params s _
  · exact receiveFrame_params s _

/-- No instruction's meaning changes a parameter, in whatever state it is run. -/
theorem exec_keeps_params {i : Instr} {s t : State} (h : exec i s = .next t) : t.params = s.params := by
  cases i with
  | beginOp => obtain ⟨-, rfl⟩ | ⟨-, -, rfl⟩ := execBegin_cases h <;> rfl
  | wakeup => obtain ⟨-, rfl⟩ | ⟨-, -, rfl⟩ := execWakeup_cases h <;> rfl
  | writeCommand header body =>
    obtain ⟨-, -, rfl⟩ | ⟨-, -, rfl⟩ | ⟨-, -, rfl⟩ := execWriteCommand_cases h <;> rfl
  | readResponse cap tmo => obtain ⟨-, -, rfl⟩ | ⟨-, -, rfl⟩ := execReadResponse_cases h <;> rfl
  | ackFrame | nackFrame | dataH2D _ _ _ | dataD2H _ _ _ => exact exec_wire_keeps_params rfl h

/-- A poll, ready or not, changes no parameter. -/
theorem block_poll_keeps_params {s t : State} (hp : isPoll s.st = true) (h : runFetched (blockMove s) = .next t) :
    t.params = s.params := by
  rw [block_poll hp] at h
  cases h
  split <;> simp

/-- A delay changes no parameter. -/
theorem block_delay_keeps_params {s t : State} (hd : isDelay s.st = true) (h : runFetched (blockMove s) = .next t) :
    t.params = s.params := by
  rw [block_delay hd] at h
  cases h
  exact delayStep_params s

/-- In IDLE the block's move changes no parameter. -/
theorem block_idle_keeps_params {s t : State} (hst : s.st = .idle) (h : runFetched (blockMove s) = .next t) :
    t.params = s.params := by
  obtain ⟨-, rfl⟩ | ⟨r, rest, -, ⟨i, extra, -, hx⟩ | ⟨e, -, rfl⟩⟩ := block_idle_cases hst h
  · rfl
  · exact (exec_keeps_params hx :)
  · rfl

/-- The block's own move changes no parameter, whatever state it is in. -/
theorem block_keeps_params {s t : State} (h : runFetched (blockMove s) = .next t) : t.params = s.params := by
  cases hst : s.st with
  | idle => exact block_idle_keeps_params hst h
  | wcSend =>
    rw [block_send hst] at h
    cases h
    exact sendFrame_params s _
  | rrNack =>
    rw [block_nack hst] at h
    cases h
    exact redeliver_params s
  | respond =>
    rw [block_respond hst] at h
    cases h
    exact takeResponse_params s
  | wcAckPoll | rrLenPoll | rrDataPoll => exact block_poll_keeps_params (by rw [hst]; rfl) h
  | wcAckDelay | rrLenDelay | rrDataDelay => exact block_delay_keeps_params (by rw [hst]; rfl) h
  | unused k =>
    rw [block_unused (by rw [hst]; rfl)] at h
    cases h

/-- Settles O40: whoever moves, by the cases of the schedule's head; the block's own move by the cases of its state. -/
theorem stepsKeepTheParameters : Obligations.StepsKeepTheParameters := by
  intro s t h
  obtain ⟨-, ⟨-, hb⟩ | ⟨rest, -, hb⟩ | ⟨rest, -, rfl⟩ | ⟨rest, -, rfl⟩ | ⟨rest, -, rfl⟩ | ⟨i, v, rest, -, rfl⟩⟩ :=
    step_cases h
  · exact block_keeps_params hb
  · exact (block_keeps_params hb :)
  · rfl
  · rfl
  · exact takeReset_params _
  · exact hostWriteOut_params _ _ _

end Sys2Proof.Machine
end

section
/-! PROOFS. The step as a relation: one constructor for each row group of the step table R89, for each way a host operation is
accepted and for each agent that can move, each tied to the model by an equivalence. The proofs below split on these. -/

namespace Sys2Proof.Machine

open Sys2Proof

/-! ### Acceptance of a host operation (R94 to R101) -/

/-- A request that decodes is a host operation. -/
theorem decodeHost_port {bytes rest : List Byte} {i : Instr} (h : decodeHost bytes = .ok i rest) : i.port = .host := by
  unfold decodeHost at h
  repeat' split at h
  all_goals cases h
  all_goals rfl

/-- `Accepts s i t`: an IDLE block in `s` that accepts the host operation `i` goes to `t`. -/
inductive Accepts (s : State) : Instr → State → Prop
  | beginOp : Accepts s .beginOp (finish { s with op := 0x00 } 0)
  | wakeup : Accepts s .wakeup (finish { s with op := 0x01 } 0)
  | refusedSize {header body : List Byte} (hsize : header.length = 0 ∨ header.length + body.length > 254) :
      Accepts s (.writeCommand header body) (raise { s with
        op := 0x02, hlen := BitVec.ofNat 8 header.length, blen := BitVec.ofNat 8 body.length } .requestError)
  | command {header body : List Byte} (hsize : ¬(header.length = 0 ∨ header.length + body.length > 254)) :
      Accepts s (.writeCommand header body) { latchTx { s with
        op := 0x02, hlen := BitVec.ofNat 8 header.length, blen := BitVec.ofNat 8 body.length,
        lastCmd := byteAt header 0, lastCmdValid := true } (encodeFrame header body) with st := .wcSend }
  | response {cap : Byte} {tmo : Half} (hv : s.lastCmdValid = true) :
      Accepts s (.readResponse cap tmo)
        { s with op := 0x03, cap := cap, tmo := tmo, attempt := 0, outRaced := false, st := .rrLenPoll }

/-- In IDLE, exec of a host operation is its acceptance. -/
theorem exec_idle_iff {s t : State} {i : Instr} (hst : s.st = .idle) (hi : i.port = .host) :
    exec i s = .next t ↔ Accepts s i t := by
  constructor
  · intro h
    cases i with
    | beginOp =>
      obtain ⟨-, rfl⟩ | ⟨hne, -⟩ := execBegin_cases h
      · exact .beginOp
      · exact absurd hst hne
    | wakeup =>
      obtain ⟨-, rfl⟩ | ⟨hne, -⟩ := execWakeup_cases h
      · exact .wakeup
      · exact absurd hst hne
    | writeCommand header body =>
      obtain ⟨-, hsize, rfl⟩ | ⟨-, hsize, rfl⟩ | ⟨hne, -⟩ := execWriteCommand_cases h
      · exact .refusedSize hsize
      · exact .command hsize
      · exact absurd hst hne
    | readResponse cap tmo =>
      obtain ⟨-, hv, rfl⟩ | ⟨hne, -⟩ := execReadResponse_cases h
      · exact .response hv
      · exact absurd hst hne
    | ackFrame | nackFrame | dataH2D _ _ _ | dataD2H _ _ _ => cases hi
  · intro h
    cases h with
    | beginOp => simp only [exec, execBegin, accept_idle hst]
    | wakeup => simp only [exec, execWakeup, accept_idle hst]
    | refusedSize hsize => simp only [exec, execWriteCommand, accept_idle hst, if_pos hsize]
    | command hsize => simp only [exec, execWriteCommand, accept_idle hst, if_neg hsize]
    | response hv => simp only [exec, execReadResponse, accept_idle hst, if_pos hv]

/-! ### The block's own move (R89) -/

/-- The request `r` taken off the host port (R94). -/
def takeRequest (s : State) (r : Request) (rest : List Request) : State :=
  { s with requests := rest, draws := s.draws + missingData r }

/-- The bytes that the poll of `s` reads, where its answer is ready (R67, R82). -/
def pollBytes (s : State) : List Byte := (nextAnswer s).bytes.take (readSize s)

/-- The answer to the poll of `s` is ready (R80). -/
def pollReadyNow (s : State) : Bool := ready s.params.readyMask (readSize s) (nextAnswer s)

/-- `block_poll` in these words. -/
theorem block_poll_eq {s : State} (h : isPoll s.st = true) : runFetched (blockMove s) = .next
    (if pollReadyNow s = true then checkAnswer (latchRx (busRead s (readSize s)) (pollBytes s)) (pollBytes s)
      else notReady (busRead s (readSize s))) :=
  block_poll h

/-- `BlockStep s t`: the block's own move from `s` goes to `t`. -/
inductive BlockStep (s : State) : State → Prop
  | noRequest (hst : s.st = .idle) (hreq : s.requests = []) : BlockStep s s
  | accept {r : Request} {rest : List Request} {i : Instr} {extra : List Byte} {t : State} (hst : s.st = .idle)
      (hreq : s.requests = r :: rest) (hdec : decodeHost (requestBytes s.draws r) = .ok i extra)
      (hacc : Accepts (takeRequest s r rest) i t) : BlockStep s t
  | refuse {r : Request} {rest : List Request} {e : DecodeError} (hst : s.st = .idle) (hreq : s.requests = r :: rest)
      (hdec : decodeHost (requestBytes s.draws r) = .error e) :
      BlockStep s (refuseReserved (takeRequest s r rest) (r.desc.extractLsb' 0 8))
  | send (hst : s.st = .wcSend) : BlockStep s (sendFrame s (txFrame s))
  | poll (hpoll : isPoll s.st = true) (hready : pollReadyNow s = true) :
      BlockStep s (checkAnswer (latchRx (busRead s (readSize s)) (pollBytes s)) (pollBytes s))
  | pollAgain (hpoll : isPoll s.st = true) (hready : pollReadyNow s = false) :
      BlockStep s (notReady (busRead s (readSize s)))
  | delay (hdelay : isDelay s.st = true) : BlockStep s (delayStep s)
  | redeliver (hst : s.st = .rrNack) : BlockStep s (redeliver s)
  | respond (hst : s.st = .respond) : BlockStep s (takeResponse s)

theorem blockStep_of_poll {s t : State} (hpoll : isPoll s.st = true) (h : runFetched (blockMove s) = .next t) :
    BlockStep s t := by
  rw [block_poll_eq hpoll] at h
  cases h
  by_cases hready : pollReadyNow s = true
  · rw [if_pos hready]
    exact .poll hpoll hready
  · rw [if_neg hready]
    exact .pollAgain hpoll (by simpa using hready)

theorem blockStep_of_idle {s t : State} (hst : s.st = .idle) (h : runFetched (blockMove s) = .next t) :
    BlockStep s t := by
  obtain ⟨hreq, rfl⟩ | ⟨r, rest, hreq, ⟨i, extra, hdec, hx⟩ | ⟨e, hdec, rfl⟩⟩ := block_idle_cases hst h
  · exact .noRequest hst hreq
  · exact .accept hst hreq hdec ((exec_idle_iff (s := takeRequest s r rest) hst (decodeHost_port hdec)).1 hx)
  · exact .refuse hst hreq hdec

theorem blockStep_of_next {s t : State} (h : runFetched (blockMove s) = .next t) : BlockStep s t := by
  cases hst : s.st with
  | idle => exact blockStep_of_idle hst h
  | wcSend =>
    rw [block_send hst] at h
    cases h
    exact .send hst
  | rrNack =>
    rw [block_nack hst] at h
    cases h
    exact .redeliver hst
  | respond =>
    rw [block_respond hst] at h
    cases h
    exact .respond hst
  | wcAckPoll | rrLenPoll | rrDataPoll => exact blockStep_of_poll (by rw [hst]; rfl) h
  | wcAckDelay | rrLenDelay | rrDataDelay =>
    have hdelay : isDelay s.st = true := by rw [hst]; rfl
    rw [block_delay hdelay] at h
    cases h
    exact .delay hdelay
  | unused k =>
    rw [block_unused (by rw [hst]; rfl)] at h
    cases h

theorem blockMove_idle {s : State} (hst : s.st = .idle) : blockMove s = fetchRequest s := by
  simp only [blockMove, hst]

theorem next_of_blockStep {s t : State} (h : BlockStep s t) : runFetched (blockMove s) = .next t := by
  cases h with
  | noRequest hst hreq => simp only [blockMove_idle hst, fetchRequest, hreq, runFetched]
  | @accept r rest _ _ _ hst hreq hdec hacc =>
    simp only [blockMove_idle hst, fetchRequest, hreq, hdec, runFetched]
    exact (exec_idle_iff (s := takeRequest s r rest) hst (decodeHost_port hdec)).2 hacc
  | refuse hst hreq hdec => simp only [blockMove_idle hst, fetchRequest, hreq, hdec, runFetched, takeRequest]
  | send hst => exact block_send hst
  | poll hpoll hready => exact (block_poll_eq hpoll).trans (congrArg _ (if_pos hready))
  | pollAgain hpoll hready => exact (block_poll_eq hpoll).trans (congrArg _ (if_neg (by simpa using hready)))
  | delay hdelay => exact block_delay hdelay
  | redeliver hst => exact block_nack hst
  | respond hst => exact block_respond hst

/-- The block's move answers a next state exactly where the relation says so. -/
theorem block_iff {s t : State} : runFetched (blockMove s) = .next t ↔ BlockStep s t :=
  ⟨blockStep_of_next, next_of_blockStep⟩

/-! ### Whoever moves (R20, R118, R131) -/

/-- `StepTo s t`: one step from `s` goes to `t`, with one constructor for each agent that can move. -/
inductive StepTo (s : State) : State → Prop
  | block {t : State} (hmoves : blockMoves s = true) (hblock : BlockStep { s with schedule := s.schedule.tail } t) :
      StepTo s t
  | wait {rest : List Move} (hnamed : isNamed s.st = true) (hsch : s.schedule = .wait :: rest) :
      StepTo s { s with schedule := rest }
  | never {rest : List Move} (hnamed : isNamed s.st = true) (hsch : s.schedule = .never :: rest) : StepTo s s
  | reset {rest : List Move} (hnamed : isNamed s.st = true) (hsch : s.schedule = .reset :: rest) :
      StepTo s (takeReset { s with schedule := rest })
  | hostWrite {i : Fin 255} {v : Byte} {rest : List Move} (hnamed : isNamed s.st = true)
      (hsch : s.schedule = .hostWritesOut i v :: rest) :
      StepTo s (hostWriteOut { s with schedule := rest } i.val v)

/-- Where the block moves, the step is its move on what is left of the schedule. -/
theorem step_of_blockMoves {s : State} (h : blockMoves s = true) :
    step s = runFetched (blockMove { s with schedule := s.schedule.tail }) := by
  unfold blockMoves at h
  split at h
  · rename_i hsch
    have hs : s = { s with schedule := s.schedule.tail } := by
      rw [hsch]
      exact congrArg (fun q => { s with schedule := q }) hsch
    rw [step_free hsch, ← hs]
  · rename_i rest hsch
    rw [step_block hsch, hsch, List.tail_cons]
  · cases h

/-- A step answers a next state exactly where the relation says so. -/
theorem step_iff {s t : State} : step s = .next t ↔ StepTo s t := by
  constructor
  · intro h
    have hn := named_of_step h
    cases hm : blockMoves s with
    | true => exact .block hm (blockStep_of_next ((step_of_blockMoves hm).symm.trans h))
    | false =>
      obtain ⟨-, ⟨hsch, -⟩ | ⟨rest, hsch, -⟩ | ⟨rest, hsch, rfl⟩ | ⟨rest, hsch, rfl⟩ | ⟨rest, hsch, rfl⟩ |
        ⟨i, v, rest, hsch, rfl⟩⟩ := step_cases h
      · simp [blockMoves, hsch] at hm
      · simp [blockMoves, hsch] at hm
      · exact .wait hn hsch
      · exact .never hn hsch
      · exact .reset hn hsch
      · exact .hostWrite hn hsch
  · intro h
    cases h with
    | block hm hb => exact (step_of_blockMoves hm).trans (next_of_blockStep hb)
    | wait hn hsch => exact step_wait hn hsch
    | never hn hsch => exact step_never hn hsch
    | reset hn hsch => exact step_reset hn hsch
    | hostWrite hn hsch => exact step_hostWrite hn hsch

end Sys2Proof.Machine
end

section
/-! PROOFS. The invariant: each operation keeps it, so each move of the block and each step does. -/

namespace Sys2Proof.Machine

open Sys2Proof

/-! ### Arithmetic of the poll counter and of the command frame -/

theorem countPoll_toNat {a : Half} (h : a.toNat + 1 ≤ 65535) : (countPoll a).toNat = a.toNat + 1 := by
  simp only [countPoll, BitVec.toNat_ofNat]
  omega

theorem ackMax_bounds {p : Params} (h : p.valid = true) : 1 ≤ p.ackMax ∧ p.ackMax ≤ 65535 := by
  simp only [Params.valid, Bool.and_eq_true, decide_eq_true_eq] at h
  exact ⟨h.1.2, h.2⟩

/-- What WRITE_COMMAND latches is what WC_SEND sends, whatever TXBUF held. -/
theorem txFrame_latchTx {s : State} {f : List Byte} (h : f.length < 512) : txFrame (latchTx s f) = f := by
  have hlen : (BitVec.ofNat 9 f.length).toNat = f.length := by
    simp only [BitVec.toNat_ofNat]
    omega
  rw [txFrame, latchTx_txBuf, latchTx_txLen, hlen]
  exact overlay_take f s.txBuf

theorem encodeFrame_length (header body : List Byte) :
    (encodeFrame header body).length = header.length + body.length + 8 := by
  simp [encodeFrame]

/-- Byte 6 of a command frame is the command code, the header's first byte (R63, R98). -/
theorem encodeFrame_command {header : List Byte} (body : List Byte) (h : header.length ≠ 0) :
    byteAt (encodeFrame header body) 6 = byteAt header 0 := by
  cases header with
  | nil => exact absurd rfl h
  | cons b bs => simp [encodeFrame, frameBuild_eq]

/-- An encoded command of an accepted size is a whole command frame for its command code. -/
theorem isCommandFrame_encodeFrame {header body : List Byte}
    (h : ¬(header.length = 0 ∨ header.length + body.length > 254)) :
    isCommandFrame (encodeFrame header body) (byteAt header 0) = true := by
  have hlen := encodeFrame_length header body
  have hdata : ((encodeFrame header body).drop 6).take ((encodeFrame header body).length - 8) = header ++ body := by
    rw [hlen, Nat.add_sub_cancel, ← List.length_append]
    simp only [encodeFrame, frameBuild_eq, List.drop_succ_cons, List.drop_zero]
    exact List.take_left
  have hcode := encodeFrame_command body (fun h0 => h (.inl h0))
  simp only [isCommandFrame, Bool.and_eq_true, decide_eq_true_eq, beq_iff_eq]
  exact ⟨⟨⟨by omega, by omega⟩, hcode⟩, by rw [hdata]; rfl⟩

/-! ### The operation in flight (R24) -/

theorem latched_of_inWrite {s : State} (h : Inv s) (hst : inWrite s.st = true) :
    s.op = 0x02 ∧ s.lastCmdValid = true := by
  obtain ⟨-, -, -, -, -, ⟨hwrite, -⟩, -⟩ := h
  exact hwrite hst

theorem latched_of_inRead {s : State} (h : Inv s) (hst : inRead s.st = true) :
    s.op = 0x03 ∧ s.lastCmdValid = true := by
  obtain ⟨-, -, -, -, -, ⟨-, hread⟩, -⟩ := h
  exact hread hst

/-! ### The operations (R12, R79, R84 to R88) -/

/-- In RESPOND the block owes its parameters, buffers and OUT, and a STATUS that its operation allows. -/
theorem inv_respond_of_fits {s : State} {v : Half} (hpar : s.params.valid = true) (hbuf : BuffersSized s)
    (hout : Memory.wf s.out = true) (hv : statusFits s.op v = true) : Inv (respond s v) :=
  ⟨rfl, hpar, hbuf, hout, ⟨nofun, nofun⟩, ⟨nofun, nofun⟩, fun _ => hv, nofun⟩

/-- An operation that ends with a STATUS its code allows keeps the invariant. -/
theorem inv_respond {s : State} {v : Half} (h : Inv s) (hv : statusFits s.op v = true) : Inv (respond s v) := by
  obtain ⟨-, hpar, hbuf, hout, -⟩ := h
  exact inv_respond_of_fits hpar hbuf hout hv

/-- An IDLE block owes nothing but its parameters, buffers and OUT. -/
theorem inv_idle {s : State} (hst : s.st = .idle) (hpar : s.params.valid = true) (hbuf : BuffersSized s)
    (hout : Memory.wf s.out = true) : Inv s := by
  refine ⟨by rw [hst]; rfl, hpar, hbuf, hout, ?_⟩
  unfold AttemptBounded OperationLatched StatusLegal FrameReady
  rw [hst]
  exact ⟨⟨nofun, nofun⟩, ⟨nofun, nofun⟩, nofun, nofun⟩

theorem inv_takeResponse {s : State} (h : Inv s) : Inv (takeResponse s) := by
  obtain ⟨-, hpar, hbuf, hout, -⟩ := h
  exact inv_idle rfl hpar hbuf hout

theorem inv_busRead {s : State} (n : Nat) (h : Inv s) : Inv (busRead s n) := by
  rw [busRead, dropAnswer_eq]
  exact h

theorem inv_busWrite {s : State} (f : List Byte) (h : Inv s) : Inv (busWrite s f) := by
  rw [busWrite, dropAnswer_eq]
  exact h

theorem inv_latchRx {s : State} {r : List Byte} (h : Inv s) (hr : r.length ≤ 263) : Inv (latchRx s r) := by
  obtain ⟨hn, hpar, ⟨htx, htl, hrx⟩, hrest⟩ := h
  exact ⟨hn, hpar, ⟨htx, htl, (overlay_length r s.rxBuf (by omega)).trans hrx⟩, hrest⟩

theorem inv_outUnspecified {s : State} {n : Nat} (h : Inv s) (hn : n ≤ 255) : Inv (outUnspecified s n) := by
  obtain ⟨hnamed, hpar, hbuf, hout, hrest⟩ := h
  exact ⟨hnamed, hpar, hbuf, wf_outUnspecified hout hn, hrest⟩

theorem inv_loseOut {s : State} (h : Inv s) : Inv (loseOut s) := inv_outUnspecified h (Nat.le_refl 255)

theorem inv_outStore {s : State} {p : List Byte} (h : Inv s) (hp : p.length ≤ 255) : Inv (outStore s p) := by
  unfold outStore
  split
  · exact inv_outUnspecified h hp
  · obtain ⟨hnamed, hpar, hbuf, hwf, hrest⟩ := h
    exact ⟨hnamed, hpar, hbuf, wf_outFill p hwf (by omega), hrest⟩

/-- The command frame's transmission starts the ack wait, whose limit is at least 1 (R84, R85). -/
theorem inv_sendFrame {s : State} (hst : s.st = .wcSend) (f : List Byte) (h : Inv s) : Inv (sendFrame s f) := by
  obtain ⟨-, hpar, hbuf, hout, -, ⟨hwrite, -⟩, -⟩ := inv_busWrite f h
  have hop := hwrite (by rw [busWrite_st, hst]; rfl)
  exact ⟨rfl, hpar, hbuf, hout, ⟨fun _ => (ackMax_bounds hpar).1, nofun⟩, ⟨fun _ => hop, nofun⟩, nofun, nofun⟩

/-- ATTEMPT = 0 is within the limit of any response wait (R25, R81). -/
theorem attempt_zero_fits (tmo : Half) : if tmo = 0 then (0 : Half) = 0 else (0 : Half).toNat < tmo.toNat := by
  split
  · rfl
  · rename_i hne
    exact Nat.pos_of_ne_zero fun h0 => hne (BitVec.eq_of_toNat_eq h0)

/-- The redelivery request starts the data wait (R87, R88). -/
theorem inv_redeliver {s : State} (hst : s.st = .rrNack) (h : Inv s) : Inv (redeliver s) := by
  obtain ⟨-, hpar, hbuf, hout, -, ⟨-, hread⟩, -⟩ := inv_busWrite s.params.nack h
  have hop := hread (by rw [busWrite_st, hst]; rfl)
  exact ⟨rfl, hpar, hbuf, hout, ⟨nofun, fun _ => attempt_zero_fits _⟩, ⟨nofun, fun _ => hop⟩, nofun, nofun⟩

/-- A poll's delay state belongs to the poll's own phase and operation. -/
theorem inv_notReady {s : State} (hpoll : isPoll s.st = true) (h : Inv s) : Inv (notReady s) := by
  obtain ⟨-, hpar, hbuf, hout, ⟨hack, hresp⟩, ⟨hwrite, hread⟩, -⟩ := h
  unfold notReady
  cases hst : s.st <;> rw [hst] at hpoll hack hresp hwrite hread <;> cases hpoll
  case wcAckPoll => exact ⟨rfl, hpar, hbuf, hout, ⟨hack, nofun⟩, ⟨hwrite, nofun⟩, nofun, nofun⟩
  case rrLenPoll | rrDataPoll => exact ⟨rfl, hpar, hbuf, hout, ⟨nofun, hresp⟩, ⟨nofun, hread⟩, nofun, nofun⟩

/-! ### What a ready answer is checked for (R85, R86, R88) -/

theorem inv_checkAck {s : State} (hst : s.st = .wcAckPoll) (r : List Byte) (h : Inv s) : Inv (checkAck s r) := by
  have ⟨hop, _⟩ := latched_of_inWrite h (by rw [hst]; rfl)
  obtain ⟨-, hc⟩ | ⟨-, hc⟩ := checkAck_cases s r <;> rw [hc] <;> exact inv_respond h (by rw [hop]; decide)

theorem inv_checkLength {s : State} (hst : s.st = .rrLenPoll) (r : List Byte) (h : Inv s) :
    Inv (checkLength s r) := by
  have hlatched := latched_of_inRead h (by rw [hst]; rfl)
  obtain ⟨-, hc⟩ | ⟨-, hc⟩ := checkLength_cases s r <;> rw [hc]
  · obtain ⟨-, hpar, hbuf, hout, -⟩ := h
    exact ⟨rfl, hpar, hbuf, hout, ⟨nofun, nofun⟩, ⟨nofun, fun _ => hlatched⟩, nofun, nofun⟩
  · exact inv_respond h (by rw [hlatched.1]; decide)

/-- READ_RESPONSE can end with any payload length up to 253 (R57). -/
theorem statusFits_length {n : Nat} (h : n ≤ 253) : statusFits 0x03 (BitVec.ofNat 16 n) = true := by
  have hn : (BitVec.ofNat 16 n).toNat ≤ 253 := by
    simp only [BitVec.toNat_ofNat]
    omega
  simp only [statusFits, hn, decide_true, Bool.true_or]
  rfl

theorem inv_checkData {s : State} (hst : s.st = .rrDataPoll) (r : List Byte) (h : Inv s) : Inv (checkData s r) := by
  have ⟨hop, _⟩ := latched_of_inRead h (by rw [hst]; rfl)
  unfold checkData
  obtain ⟨p, hd, hc⟩ | ⟨n, hd, hc⟩ | ⟨e, hd, hc⟩ :=
    settleDecode_cases s (decodeFull r s.lenD (expectedCode s.lastCmd) s.cap) <;> rw [hc]
  · obtain ⟨-, -, hp⟩ := decodeFull_payload_length hd
    exact inv_respond (inv_outStore h (by omega)) (by rw [outStore_op, hop]; exact statusFits_length hp)
  · obtain ⟨-, -, hn⟩ := decodeFull_badPayload_le hd
    exact inv_respond (inv_outUnspecified h (by omega)) (by rw [outUnspecified_op, hop]; decide)
  · obtain rfl | rfl := decodeFull_error_kind hd <;> exact inv_respond h (by rw [hop]; decide)

theorem inv_checkAnswer {s : State} (r : List Byte) (h : Inv s) : Inv (checkAnswer s r) := by
  obtain ⟨hst, hc⟩ | ⟨hst, hc⟩ | ⟨hst, hc⟩ | ⟨-, hc⟩ := checkAnswer_cases s r <;> rw [hc]
  · exact inv_checkAck hst r h
  · exact inv_checkLength hst r h
  · exact inv_checkData hst r h
  · exact h

/-! ### The delay of a failed poll (R81) -/

/-- In a delay state the poll counter is below the phase's limit where there is one (R25). -/
theorem attempt_lt_pollLimit {s : State} (hdelay : isDelay s.st = true) (h : Inv s) (hlim : pollLimit s ≠ 0) :
    s.attempt.toNat < pollLimit s ∧ pollLimit s ≤ 65535 := by
  obtain ⟨-, hpar, -, -, ⟨hack, hresp⟩, -⟩ := h
  have htmo := s.tmo.isLt
  cases hst : s.st <;> rw [hst] at hdelay hack hresp <;> cases hdelay <;> simp only [pollLimit, hst] at hlim ⊢
  case wcAckDelay => exact ⟨hack rfl, (ackMax_bounds hpar).2⟩
  case rrLenDelay | rrDataDelay =>
    have hne : s.tmo ≠ 0 := fun h0 => hlim (by rw [h0]; rfl)
    have hlt := hresp rfl
    rw [if_neg hne] at hlt
    exact ⟨hlt, by omega⟩

/-- A phase without a limit is a response wait with TMO = 0, whose ATTEMPT is 0 (R25, R92). -/
theorem attempt_zero_of_pollLimit {s : State} (hdelay : isDelay s.st = true) (h : Inv s) (hlim : pollLimit s = 0) :
    s.attempt = 0 := by
  obtain ⟨-, hpar, -, -, ⟨-, hresp⟩, -⟩ := h
  have hack := (ackMax_bounds hpar).1
  cases hst : s.st <;> rw [hst] at hdelay hresp <;> cases hdelay <;> simp only [pollLimit, hst] at hlim
  case wcAckDelay => omega
  case rrLenDelay | rrDataDelay =>
    have hatt := hresp rfl
    rwa [if_pos (BitVec.eq_of_toNat_eq hlim)] at hatt

/-- Every operation that polls can end with TIMEOUT (R104). -/
theorem statusFits_timeout {s : State} (hdelay : isDelay s.st = true) (h : Inv s) :
    statusFits s.op ErrorKind.timeout.code = true := by
  obtain ⟨-, -, -, -, -, ⟨hwrite, hread⟩, -⟩ := h
  cases hst : s.st <;> rw [hst] at hdelay hwrite hread <;> cases hdelay
  case wcAckDelay => rw [(hwrite rfl).1]; decide
  case rrLenDelay | rrDataDelay => rw [(hread rfl).1]; decide

/-- After a delay the block polls again, with an ATTEMPT that is still within its limit. -/
theorem inv_pollOf {s : State} {a : Half} (hdelay : isDelay s.st = true) (h : Inv s) (hzero : pollLimit s = 0 → a = 0)
    (hlt : pollLimit s ≠ 0 → a.toNat < pollLimit s) : Inv { delay s with attempt := a, st := pollOf s.st } := by
  obtain ⟨-, hpar, hbuf, hout, -, ⟨hwrite, hread⟩, -⟩ := h
  have hack := (ackMax_bounds hpar).1
  have hresp (hlim : pollLimit s = s.tmo.toNat) : if s.tmo = 0 then a = 0 else a.toNat < s.tmo.toNat := by
    split
    · exact hzero (by rw [hlim]; simp [*])
    · rename_i hne
      rw [← hlim]
      exact hlt fun h0 => hne (BitVec.eq_of_toNat_eq (hlim.symm.trans h0))
  cases hst : s.st <;> rw [hst] at hdelay hwrite hread <;> cases hdelay
  case wcAckDelay =>
    have hlim : pollLimit s = s.params.ackMax := by simp only [pollLimit, hst]
    rw [hlim] at hlt
    exact ⟨rfl, hpar, hbuf, hout, ⟨fun _ => hlt (by omega), nofun⟩, ⟨hwrite, nofun⟩, nofun, nofun⟩
  case rrLenDelay | rrDataDelay =>
    have hlim : pollLimit s = s.tmo.toNat := by simp only [pollLimit, hst]
    exact ⟨rfl, hpar, hbuf, hout, ⟨nofun, fun _ => hresp hlim⟩, ⟨nofun, hread⟩, nofun, nofun⟩

theorem inv_delayStep {s : State} (hdelay : isDelay s.st = true) (h : Inv s) : Inv (delayStep s) := by
  obtain ⟨hlim, hd⟩ | ⟨-, hd⟩ | ⟨hlim, hne, hd⟩ := delayStep_cases s <;> rw [hd]
  · exact inv_pollOf hdelay h (fun _ => attempt_zero_of_pollLimit hdelay h hlim) (fun hpos => absurd hlim hpos)
  · have hfits := statusFits_timeout hdelay h
    obtain ⟨-, hpar, hbuf, hout, -⟩ := h
    exact inv_respond_of_fits hpar hbuf hout hfits
  · obtain ⟨hlt, hmax⟩ := attempt_lt_pollLimit hdelay h hlim
    exact inv_pollOf hdelay h (fun h0 => absurd h0 hlim) fun _ => by rw [countPoll_toNat (by omega)]; omega

/-! ### Acceptance (R55, R94 to R101) -/

/-- A host operation that an IDLE block accepts leaves it in a state that meets the invariant. -/
theorem inv_accepts {s t : State} {i : Instr} (h : Inv s) (hacc : Accepts s i t) : Inv t := by
  obtain ⟨-, hpar, hbuf, hout, -⟩ := h
  cases hacc with
  | beginOp | wakeup | refusedSize _ => exact inv_respond_of_fits hpar hbuf hout rfl
  | @command header body hsize =>
    obtain ⟨htx, -, hrx⟩ := hbuf
    have hlen := encodeFrame_length header body
    refine ⟨rfl, hpar, ⟨?_, ?_, hrx⟩, hout, ⟨nofun, nofun⟩, ⟨fun _ => ⟨rfl, rfl⟩, nofun⟩, nofun, fun _ => ?_⟩
    · exact (overlay_length _ s.txBuf (by omega)).trans htx
    · rw [latchTx_txLen, BitVec.toNat_ofNat]
      omega
    · exact (congrArg (isCommandFrame · _) (txFrame_latchTx (by omega))).trans (isCommandFrame_encodeFrame hsize)
  | response hv =>
    exact ⟨rfl, hpar, hbuf, hout, ⟨nofun, fun _ => attempt_zero_fits _⟩, ⟨nofun, fun _ => ⟨rfl, hv⟩⟩,
      nofun, nofun⟩

/-- READ_RESPONSE has no reserved descriptor (R55). -/
theorem op_ne_readResponse_of_reserved {d : Nat} {r : Request} {e : DecodeError}
    (h : decodeHost (requestBytes d r) = .error e) : r.desc.extractLsb' 0 8 ≠ 0x03 := by
  intro hop
  simp [requestBytes, descriptorBytes, decodeHost, hop] at h

/-- Every operation code but READ_RESPONSE's can end with REQUEST_ERROR (R55, R97). -/
theorem statusFits_requestError {op : Byte} (h : op ≠ 0x03) : statusFits op ErrorKind.requestError.code = true := by
  unfold statusFits
  rw [if_neg h]
  split_ifs <;> rfl

theorem inv_refuseReserved {s : State} {op : Byte} (h : Inv s) (hop : op ≠ 0x03) : Inv (refuseReserved s op) := by
  obtain ⟨-, hpar, hbuf, hout, -⟩ := h
  exact inv_respond_of_fits hpar hbuf hout (statusFits_requestError hop)

/-! ### Every step -/

/-- The block's own move keeps the invariant. -/
theorem inv_blockStep {s t : State} (h : Inv s) (hb : BlockStep s t) : Inv t := by
  cases hb with
  | noRequest => exact h
  | @accept r rest _ _ _ hst hreq hdec hacc => exact inv_accepts (s := takeRequest s r rest) h hacc
  | @refuse r rest _ hst hreq hdec =>
    exact inv_refuseReserved (s := takeRequest s r rest) h (op_ne_readResponse_of_reserved hdec)
  | send hst => exact inv_sendFrame hst _ h
  | poll hpoll _ =>
    have hlen : (pollBytes s).length ≤ 263 := (List.length_take_le _ _).trans (readSize_bounds hpoll).2
    exact inv_checkAnswer _ (inv_latchRx (inv_busRead _ h) hlen)
  | pollAgain hpoll _ => exact inv_notReady (by rw [busRead_st]; exact hpoll) (inv_busRead _ h)
  | delay hdelay => exact inv_delayStep hdelay h
  | redeliver hst => exact inv_redeliver hst h
  | respond _ => exact inv_takeResponse h

theorem inv_takeReset {s : State} (h : Inv s) : Inv (takeReset s) := by
  obtain ⟨-, hpar, -, hout, -⟩ := h
  refine inv_idle (takeReset_st s) (by rw [takeReset_params]; exact hpar) ?_ (wf_takeReset hout)
  unfold takeReset
  refine ⟨freeBytes_length _ _, ?_, freeBytes_length _ _⟩
  rw [resetRegisters_txLen, BitVec.toNat_ofNat]
  omega

/-- The model's own flag outRaced is no part of the invariant. -/
theorem inv_setRaced {s : State} (b : Bool) (h : Inv s) : Inv { s with outRaced := b } := h

/-- A host write to OUT touches no register. -/
theorem inv_hostWriteOut {s : State} (i : Fin 255) (v : Byte) (h : Inv s) : Inv (hostWriteOut s i.val v) := by
  unfold hostWriteOut
  split
  · exact inv_setRaced true (inv_loseOut h)
  · obtain ⟨hn, hpar, hbuf, hout, hrest⟩ := h
    exact ⟨hn, hpar, hbuf, wf_outWrite v hout i.isLt, hrest⟩

/-- Settles O45: by the agent that moves, the block's own move by its row of the step table. -/
theorem stepKeepsTheInvariant : Obligations.StepKeepsTheInvariant := by
  intro s t h hstep
  cases step_iff.1 hstep with
  | block _ hb => exact inv_blockStep (s := { s with schedule := s.schedule.tail }) h hb
  | wait | never => exact h
  | @reset rest _ _ => exact inv_takeReset (s := { s with schedule := rest }) h
  | @hostWrite i v rest _ _ => exact inv_hostWriteOut (s := { s with schedule := rest }) i v h

/-- After reset the buffers have their sizes (R28, R29). -/
theorem reset_buffersSized : BuffersSized State.reset :=
  ⟨List.length_replicate, Nat.zero_le _, List.length_replicate⟩

/-- Settles O43: ST and LAST_CMD_VALID as R32 gives them, the buffers as declared. -/
theorem resetStateIsIdleWithoutCommand : Obligations.ResetStateIsIdleWithoutCommand := by
  obtain ⟨htx, -, hrx⟩ := reset_buffersSized
  exact ⟨rfl, rfl, htx, hrx⟩

/-- Settles O46: R8's defaults are valid and the buffers have their sizes. -/
theorem resetMeetsTheInvariant : Obligations.ResetMeetsTheInvariant :=
  inv_idle (s := State.reset) rfl (by decide) reset_buffersSized wf_reset

end Sys2Proof.Machine
end

section
/-! PROOFS. Dead registers never matter: each operation takes two states that agree on their live registers to two that again
agree so, and what a move depends on is live (R16, R32, U1 to U3). -/

namespace Sys2Proof.Machine

open Sys2Proof

variable {s t : State}

/-! ### What a move depends on is live -/

theorem SameLive.st_eq (h : SameLive s t) : s.st = t.st := by
  obtain ⟨⟨hst, -⟩, -⟩ := h
  exact hst

theorem SameLive.params_eq (h : SameLive s t) : s.params = t.params := by
  obtain ⟨⟨-, -, -, -, hpar, -⟩, -⟩ := h
  exact hpar

theorem SameLive.requests_eq (h : SameLive s t) : s.requests = t.requests := by
  obtain ⟨⟨-, -, -, -, -, hreq, -⟩, -⟩ := h
  exact hreq

theorem SameLive.schedule_eq (h : SameLive s t) : s.schedule = t.schedule := by
  obtain ⟨⟨-, -, -, -, -, -, -, hsch, -⟩, -⟩ := h
  exact hsch

theorem SameLive.draws_eq (h : SameLive s t) : s.draws = t.draws := by
  obtain ⟨⟨-, -, -, -, -, -, -, -, -, -, hdraws⟩, -⟩ := h
  exact hdraws

theorem SameLive.op_eq (h : SameLive s t) (hst : s.st ≠ .idle) : s.op = t.op := by
  obtain ⟨-, -, hop, -⟩ := h
  exact hop hst

theorem SameLive.nextAnswer_eq (h : SameLive s t) : nextAnswer s = nextAnswer t := by
  obtain ⟨⟨-, -, -, -, -, -, hans, -, -, -, hdraws⟩, -⟩ := h
  rw [nextAnswer, nextAnswer, hans, hdraws]

/-- The only poll whose size a register decides is the data poll, where LEN_D is live (R26, R82). -/
theorem SameLive.readSize_eq (h : SameLive s t) : readSize s = readSize t := by
  obtain ⟨⟨hst, -⟩, -, -, -, -, hlen, -⟩ := h
  cases hs : s.st
  case rrDataPoll => rw [readSize, readSize, ← hst, hs, hlen (by rw [hs]; rfl)]
  all_goals rw [readSize, readSize, ← hst, hs]

theorem SameLive.pollBytes_eq (h : SameLive s t) : pollBytes s = pollBytes t := by
  rw [pollBytes, pollBytes, h.nextAnswer_eq, h.readSize_eq]

theorem SameLive.pollReadyNow_eq (h : SameLive s t) : pollReadyNow s = pollReadyNow t := by
  rw [pollReadyNow, pollReadyNow, h.nextAnswer_eq, h.readSize_eq, h.params_eq]

theorem SameLive.attempt_eq (h : SameLive s t) (hwait : isPoll s.st = true ∨ isDelay s.st = true) :
    s.attempt = t.attempt := by
  obtain ⟨-, -, -, -, hatt, -⟩ := h
  cases hs : s.st with
  | wcAckPoll | wcAckDelay => exact hatt (.inl (by rw [hs]; rfl))
  | rrLenPoll | rrDataPoll | rrLenDelay | rrDataDelay => exact hatt (.inr (by rw [hs]; rfl))
  | _ => rw [hs] at hwait; simp [isPoll, isDelay] at hwait

/-- A delay's limit is a parameter or TMO, which is live in READ_RESPONSE (R24, R81). -/
theorem SameLive.pollLimit_eq (h : SameLive s t) (hdelay : isDelay s.st = true) : pollLimit s = pollLimit t := by
  obtain ⟨⟨hst, -, -, -, hpar, -⟩, -, -, hread, -⟩ := h
  rw [pollLimit, pollLimit, ← hst, ← hpar]
  cases hs : s.st with
  | wcAckDelay => rfl
  | rrLenDelay | rrDataDelay => rw [(hread (by rw [hs]; rfl)).2]
  | _ => exact absurd hdelay (by rw [hs]; nofun)

/-- The frame to be sent is live in WC_SEND (R28). -/
theorem SameLive.txFrame_eq (h : SameLive s t) (hst : s.st = .wcSend) : txFrame s = txFrame t := by
  obtain ⟨-, -, -, -, -, -, -, htx⟩ := h
  exact htx hst

theorem SameLive.readRunning_eq (h : SameLive s t) : readRunning s = readRunning t := by
  obtain ⟨⟨hst, -⟩, -, hop, -⟩ := h
  cases hs : s.st
  case respond => rw [readRunning, readRunning, ← hst, hs, hop (by rw [hs]; nofun)]
  all_goals rw [readRunning, readRunning, ← hst, hs]

/-! ### The operations -/

/-- A move to a state that needs no register the old one did not, but an ATTEMPT on which the two agree. -/
theorem SameLive.setPhase {st : St} {a b : Half} (h : SameLive s t) (hidle : st ≠ .idle → s.st ≠ .idle)
    (hread : inRead st = true → inRead s.st = true) (hlen : needsLength st = true → needsLength s.st = true)
    (hrespond : st ≠ .respond) (hsend : st ≠ .wcSend) (hatt : a = b) :
    SameLive { s with attempt := a, st := st } { t with attempt := b, st := st } := by
  obtain ⟨⟨-, hv, hrest⟩, hcmd, hop, hopnd, -, hlenD, -⟩ := h
  exact ⟨⟨rfl, hv, hrest⟩, fun hc => hcmd (hc.imp_right hread), fun hne => hop (hidle hne), fun hr => hopnd (hread hr),
    fun _ => hatt, fun hl => hlenD (hlen hl), fun h => absurd h hrespond, fun h => absurd h hsend⟩

theorem SameLive.setOp (h : SameLive s t) (op : Byte) : SameLive { s with op := op } { t with op := op } := by
  obtain ⟨hcommon, hcmd, -, hrest⟩ := h
  exact ⟨hcommon, hcmd, fun _ => rfl, hrest⟩

theorem SameLive.setAttempt (h : SameLive s t) (a : Half) :
    SameLive { s with attempt := a } { t with attempt := a } := by
  obtain ⟨hcommon, hcmd, hop, hopnd, -, hrest⟩ := h
  exact ⟨hcommon, hcmd, hop, hopnd, fun _ => rfl, hrest⟩

theorem SameLive.setSchedule (h : SameLive s t) (moves : List Move) :
    SameLive { s with schedule := moves } { t with schedule := moves } := by
  obtain ⟨⟨hst, hv, hout, hraced, hpar, hreq, hans, -, hrest⟩, hlive⟩ := h
  exact ⟨⟨hst, hv, hout, hraced, hpar, hreq, hans, rfl, hrest⟩, hlive⟩

theorem SameLive.after_takeRequest (h : SameLive s t) (r : Request) (rest : List Request) :
    SameLive (takeRequest s r rest) (takeRequest t r rest) := by
  obtain ⟨⟨hst, hv, hout, hraced, hpar, -, hans, hsch, htr, hresp, hdraws⟩, hlive⟩ := h
  exact ⟨⟨hst, hv, hout, hraced, hpar, rfl, hans, hsch, htr, hresp, congrArg (· + missingData r) hdraws⟩, hlive⟩

/-- In RESPOND the live registers are OP and STATUS. -/
theorem SameLive.after_respond (h : SameLive s t) (hop : s.op = t.op) (v : Half) : SameLive (respond s v) (respond t v) := by
  obtain ⟨⟨-, hv, hrest⟩, hcmd, -⟩ := h
  exact ⟨⟨rfl, hv, hrest⟩, fun hc => hcmd (hc.imp_right nofun), fun _ => hop, nofun, nofun, nofun, fun _ => rfl, nofun⟩

/-- The STATUS that the host takes is live (R27, R57). -/
theorem SameLive.after_takeResponse (h : SameLive s t) (hst : s.st = .respond) :
    SameLive (takeResponse s) (takeResponse t) := by
  obtain ⟨⟨-, hv, hout, hraced, hpar, hreq, hans, hsch, htr, hresp, hdraws⟩, hcmd, -, -, -, -, hstatus, -⟩ := h
  exact ⟨⟨rfl, hv, hout, hraced, hpar, hreq, hans, hsch, htr, congrArg₂ List.cons (hstatus hst) hresp, hdraws⟩,
    fun hc => hcmd (hc.imp_right nofun), fun hne => absurd rfl hne, nofun, nofun, nofun, nofun, nofun⟩

theorem SameLive.after_issue (h : SameLive s t) (x : Txn) : SameLive (issue s x) (issue t x) := by
  obtain ⟨⟨hst, hv, hout, hraced, hpar, hreq, hans, hsch, htr, hrest⟩, hlive⟩ := h
  exact ⟨⟨hst, hv, hout, hraced, hpar, hreq, hans, hsch, congrArg (x :: ·) htr, hrest⟩, hlive⟩

theorem SameLive.after_dropAnswer (h : SameLive s t) : SameLive (dropAnswer s) (dropAnswer t) := by
  obtain ⟨⟨hst, hv, hout, hraced, hpar, hreq, hans, hsch, htr, hresp, hdraws⟩, hlive⟩ := h
  rw [dropAnswer_eq, dropAnswer_eq]
  exact ⟨⟨hst, hv, hout, hraced, hpar, hreq, congrArg List.tail hans, hsch, htr, hresp,
    congrArg₂ (· + freeAnswersDrawn ·) hdraws hans⟩, hlive⟩

theorem SameLive.after_busRead (h : SameLive s t) (n : Nat) : SameLive (busRead s n) (busRead t n) := by
  rw [busRead, busRead, h.params_eq]
  exact (h.after_issue _).after_dropAnswer

theorem SameLive.after_busWrite (h : SameLive s t) (f : List Byte) : SameLive (busWrite s f) (busWrite t f) := by
  rw [busWrite, busWrite, h.params_eq]
  exact (h.after_issue _).after_dropAnswer

theorem SameLive.after_delay (h : SameLive s t) : SameLive (delay s) (delay t) := by
  rw [delay, delay, h.params_eq]
  exact h.after_issue _

/-- RXBUF is live nowhere. -/
theorem SameLive.after_latchRx (h : SameLive s t) (r : List Byte) : SameLive (latchRx s r) (latchRx t r) := h

theorem SameLive.setOut (h : SameLive s t) (m : List Host.Cell) : SameLive { s with out := m } { t with out := m } := by
  obtain ⟨⟨hst, hv, -, hrest⟩, hlive⟩ := h
  exact ⟨⟨hst, hv, rfl, hrest⟩, hlive⟩

theorem SameLive.setRaced (h : SameLive s t) (b : Bool) :
    SameLive { s with outRaced := b } { t with outRaced := b } := by
  obtain ⟨⟨hst, hv, hout, -, hrest⟩, hlive⟩ := h
  exact ⟨⟨hst, hv, hout, rfl, hrest⟩, hlive⟩

theorem SameLive.after_outUnspecified (h : SameLive s t) (n : Nat) :
    SameLive (outUnspecified s n) (outUnspecified t n) := by
  obtain ⟨⟨hst, hv, hout, hraced, hpar, hreq, hans, hsch, htr, hresp, hdraws⟩, hlive⟩ := h
  exact ⟨⟨hst, hv, congrArg₂ (fun m d => outFill m 0 (freeBytes d n)) hout hdraws, hraced, hpar, hreq, hans, hsch, htr,
    hresp, congrArg (· + n) hdraws⟩, hlive⟩

theorem SameLive.out_eq (h : SameLive s t) : s.out = t.out ∧ s.outRaced = t.outRaced := by
  obtain ⟨⟨-, -, hout, hraced, -⟩, -⟩ := h
  exact ⟨hout, hraced⟩

theorem outStore_of_raced (hraced : s.outRaced = true) (p : List Byte) : outStore s p = outUnspecified s p.length :=
  if_pos hraced

theorem outStore_of_not_raced (hraced : s.outRaced = false) (p : List Byte) :
    outStore s p = { s with out := outFill s.out 0 p } :=
  if_neg (by rw [hraced]; nofun)

theorem SameLive.after_outStore (h : SameLive s t) (p : List Byte) : SameLive (outStore s p) (outStore t p) := by
  obtain ⟨hout, hraced⟩ := h.out_eq
  cases hr : s.outRaced
  · rw [outStore_of_not_raced hr, outStore_of_not_raced (hraced.symm.trans hr), ← hout]
    exact h.setOut _
  · rw [outStore_of_raced hr, outStore_of_raced (hraced.symm.trans hr)]
    exact h.after_outUnspecified _

theorem SameLive.after_sendFrame (h : SameLive s t) (hst : s.st = .wcSend) (f : List Byte) :
    SameLive (sendFrame s f) (sendFrame t f) :=
  (h.after_busWrite f).setPhase (fun _ => by rw [busWrite_st, hst]; nofun) nofun nofun nofun nofun rfl

theorem SameLive.after_redeliver (h : SameLive s t) (hst : s.st = .rrNack) : SameLive (redeliver s) (redeliver t) := by
  rw [redeliver, redeliver, ← h.params_eq]
  exact (h.after_busWrite _).setPhase (fun _ => by rw [busWrite_st, hst]; nofun) (fun _ => by rw [busWrite_st, hst]; rfl)
    (fun _ => by rw [busWrite_st, hst]; rfl) nofun nofun rfl

theorem SameLive.after_notReady (h : SameLive s t) (hpoll : isPoll s.st = true) : SameLive (notReady s) (notReady t) := by
  rw [notReady, notReady, ← h.st_eq]
  have hatt := h.attempt_eq (.inl hpoll)
  cases hs : s.st <;> rw [hs] at hpoll <;> cases hpoll <;>
    exact h.setPhase (by rw [hs]; nofun) (by rw [hs]; exact id) (by rw [hs]; exact id) nofun nofun hatt

/-- After a delay the block polls again, with the ATTEMPT that the delay leaves (R81). -/
theorem SameLive.after_pollOf (h : SameLive s t) (hdelay : isDelay s.st = true) {a b : Half} (hatt : a = b) :
    SameLive { delay s with attempt := a, st := pollOf s.st } { delay t with attempt := b, st := pollOf t.st } := by
  rw [← h.st_eq]
  cases hs : s.st <;> rw [hs] at hdelay <;> cases hdelay <;>
    exact h.after_delay.setPhase (by rw [delay_st, hs]; nofun) (by rw [delay_st, hs]; exact id)
      (by rw [delay_st, hs]; exact id) nofun nofun hatt

theorem SameLive.after_delayStep (h : SameLive s t) (hdelay : isDelay s.st = true) :
    SameLive (delayStep s) (delayStep t) := by
  have hatt := h.attempt_eq (.inr hdelay)
  have hlim := h.pollLimit_eq hdelay
  have hop := h.op_eq (by intro hs; rw [hs] at hdelay; cases hdelay)
  rw [delayStep, delayStep, ← hlim, ← hatt]
  split
  · exact h.after_pollOf hdelay hatt
  · split
    · exact (h.after_delay.setAttempt _).after_respond hop _
    · exact h.after_pollOf hdelay rfl

/-! ### What a ready answer is checked for (R85, R86, R88) -/

theorem SameLive.after_checkAck (h : SameLive s t) (hst : s.st = .wcAckPoll) (r : List Byte) :
    SameLive (checkAck s r) (checkAck t r) := by
  have hop := h.op_eq (by rw [hst]; nofun)
  unfold checkAck
  split
  · exact h.after_respond hop _
  · exact h.after_respond hop _

/-- The declared length comes from the answer, CAP, TMO and LAST_CMD stay live (R86). -/
theorem SameLive.after_checkLength (h : SameLive s t) (hst : s.st = .rrLenPoll) (r : List Byte) :
    SameLive (checkLength s r) (checkLength t r) := by
  have hop := h.op_eq (by rw [hst]; nofun)
  unfold checkLength
  split
  · obtain ⟨⟨-, hv, hrest⟩, hcmd, -, hopnd, -⟩ := h
    have hread : inRead s.st = true := by rw [hst]; rfl
    exact ⟨⟨rfl, hv, hrest⟩, fun _ => hcmd (.inr hread), fun _ => hop, fun _ => hopnd hread, nofun, fun _ => rfl, nofun,
      nofun⟩
  · exact h.after_respond hop _

/-- Decode-full reads LEN_D, LAST_CMD and CAP, which are live in the data poll (R88). -/
theorem SameLive.after_checkData (h : SameLive s t) (hst : s.st = .rrDataPoll) (r : List Byte) :
    SameLive (checkData s r) (checkData t r) := by
  have hop := h.op_eq (by rw [hst]; nofun)
  have hdec : decodeFull r s.lenD (expectedCode s.lastCmd) s.cap = decodeFull r t.lenD (expectedCode t.lastCmd) t.cap := by
    obtain ⟨-, hcmd, -, hopnd, -, hlen, -⟩ := h
    rw [hlen (by rw [hst]; rfl), hcmd (.inr (by rw [hst]; rfl)), (hopnd (by rw [hst]; rfl)).1]
  rw [checkData, checkData, ← hdec]
  cases decodeFull r s.lenD (expectedCode s.lastCmd) s.cap with
  | payload p => exact (h.after_outStore p).after_respond (by rw [outStore_op, outStore_op, hop]) _
  | badPayload n => exact (h.after_outUnspecified n).after_respond hop _
  | error e => exact h.after_respond hop _

theorem SameLive.after_checkAnswer (h : SameLive s t) (r : List Byte) : SameLive (checkAnswer s r) (checkAnswer t r) := by
  rw [checkAnswer, checkAnswer, ← h.st_eq]
  cases hst : s.st with
  | wcAckPoll => exact h.after_checkAck hst r
  | rrLenPoll => exact h.after_checkLength hst r
  | rrDataPoll => exact h.after_checkData hst r
  | _ => exact h

/-! ### Every step -/

/-- Two IDLE blocks that agree on their live registers accept a host operation alike. -/
theorem SameLive.after_accepts {s' : State} {i : Instr} (h : SameLive s t) (hacc : Accepts s i s') :
    ∃ t', Accepts t i t' ∧ SameLive s' t' := by
  cases hacc with
  | beginOp => exact ⟨_, .beginOp, (h.setOp _).after_respond rfl _⟩
  | wakeup => exact ⟨_, .wakeup, (h.setOp _).after_respond rfl _⟩
  | refusedSize hsize => exact ⟨_, .refusedSize hsize, (h.setOp 0x02).after_respond rfl _⟩
  | @command header body hsize =>
    have hlen : (encodeFrame header body).length < 512 := by rw [encodeFrame_length]; omega
    obtain ⟨⟨-, -, hrest⟩, -⟩ := h
    exact ⟨_, .command hsize, ⟨rfl, rfl, hrest⟩, fun _ => rfl, fun _ => rfl, nofun, nofun, nofun, nofun,
      fun _ => (txFrame_latchTx hlen).trans (txFrame_latchTx hlen).symm⟩
  | response hv =>
    obtain ⟨⟨-, hvt, hout, -, hrest⟩, hcmd, -⟩ := h
    exact ⟨_, .response (hvt.symm.trans hv), ⟨rfl, hvt, hout, rfl, hrest⟩, fun _ => hcmd (.inl hv), fun _ => rfl,
      fun _ => ⟨rfl, rfl⟩, fun _ => rfl, nofun, nofun, nofun⟩

/-- The block's own move depends on live registers alone. -/
theorem SameLive.after_blockStep {s' : State} (h : SameLive s t) (hb : BlockStep s s') :
    ∃ t', BlockStep t t' ∧ SameLive s' t' := by
  have hst := h.st_eq
  have hreqs := h.requests_eq
  cases hb with
  | noRequest hidle hreq => exact ⟨_, .noRequest (hst ▸ hidle) (hreqs ▸ hreq), h⟩
  | @accept r rest _ _ _ hidle hreq hdec hacc =>
    obtain ⟨t', hacc', hlive⟩ := (h.after_takeRequest r rest).after_accepts hacc
    exact ⟨t', .accept (hst ▸ hidle) (hreqs ▸ hreq) (h.draws_eq ▸ hdec) hacc', hlive⟩
  | @refuse r rest _ hidle hreq hdec =>
    exact ⟨_, .refuse (hst ▸ hidle) (hreqs ▸ hreq) (h.draws_eq ▸ hdec),
      ((h.after_takeRequest r rest).setOp _).after_respond rfl _⟩
  | send hsend =>
    refine ⟨_, .send (hst ▸ hsend), ?_⟩
    rw [← h.txFrame_eq hsend]
    exact h.after_sendFrame hsend _
  | poll hpoll hready =>
    refine ⟨_, .poll (hst ▸ hpoll) (h.pollReadyNow_eq ▸ hready), ?_⟩
    rw [← h.pollBytes_eq, ← h.readSize_eq]
    exact ((h.after_busRead _).after_latchRx _).after_checkAnswer _
  | pollAgain hpoll hready =>
    refine ⟨_, .pollAgain (hst ▸ hpoll) (h.pollReadyNow_eq ▸ hready), ?_⟩
    rw [← h.readSize_eq]
    exact (h.after_busRead _).after_notReady (by rw [busRead_st]; exact hpoll)
  | delay hdelay => exact ⟨_, .delay (hst ▸ hdelay), h.after_delayStep hdelay⟩
  | redeliver hnack => exact ⟨_, .redeliver (hst ▸ hnack), h.after_redeliver hnack⟩
  | respond hresp => exact ⟨_, .respond (hst ▸ hresp), h.after_takeResponse hresp⟩

/-- The free values of the reset event are numbered by the draw counter, which is live (R118). -/
theorem SameLive.after_resetRegisters (h : SameLive s t) : SameLive (resetRegisters s) (resetRegisters t) := by
  obtain ⟨⟨hst, -, hout, hraced, hpar, hreq, hans, hsch, htr, hresp, hdraws⟩, -⟩ := h
  have hanswers : (resetRegisters s).answers = (resetRegisters t).answers := by
    rw [resetRegisters_answers, resetRegisters_answers, hst, hans]
  exact ⟨⟨rfl, rfl, hout, hraced, hpar, hreq, hanswers, hsch, htr, hresp, congrArg (· + 531) hdraws⟩, nofun, nofun, nofun,
    nofun, nofun, nofun, nofun⟩

/-- At a reset event every register takes a value that is the same for both. -/
theorem SameLive.after_takeReset (h : SameLive s t) : SameLive (takeReset s) (takeReset t) := by
  have hlose : SameLive (if readRunning s then loseOut s else s) (if readRunning s then loseOut t else t) := by
    split
    · exact h.after_outUnspecified 255
    · exact h
  rw [takeReset, takeReset, ← h.readRunning_eq]
  exact hlose.after_resetRegisters

theorem SameLive.after_hostWriteOut (h : SameLive s t) (i : Nat) (v : Byte) :
    SameLive (hostWriteOut s i v) (hostWriteOut t i v) := by
  rw [hostWriteOut, hostWriteOut, ← h.readRunning_eq, ← h.out_eq.1]
  split
  · exact (h.after_outUnspecified 255).setRaced true
  · exact h.setOut _

/-- Settles O47: by the agent that moves, with the same agent moving in both states. -/
theorem deadRegistersNeverMatter : Obligations.DeadRegistersNeverMatter := by
  intro s t s' h hstep
  have hsch := h.schedule_eq
  have hn : isNamed t.st = true := h.st_eq ▸ named_of_step hstep
  simp only [step_iff] at hstep ⊢
  cases hstep with
  | block hm hb =>
    have hm' : blockMoves t = true := by rwa [blockMoves, ← hsch]
    obtain ⟨t', hb', hlive⟩ := (h.setSchedule s.schedule.tail).after_blockStep hb
    exact ⟨t', .block hm' (hsch ▸ hb'), hlive⟩
  | wait _ hw => exact ⟨_, .wait hn (hsch ▸ hw), h.setSchedule _⟩
  | never _ hw => exact ⟨_, .never hn (hsch ▸ hw), h⟩
  | reset _ hw => exact ⟨_, .reset hn (hsch ▸ hw), (h.setSchedule _).after_takeReset⟩
  | hostWrite _ hw => exact ⟨_, .hostWrite hn (hsch ▸ hw), (h.setSchedule _).after_hostWriteOut _ _⟩

end Sys2Proof.Machine
end

section
/-! PROOFS. What single moves leave alone: frames nobody reads, the registers around a received frame, the one transaction of
each move, and who writes LAST_CMD and STATUS. -/

namespace Sys2Proof.Machine

open Sys2Proof

/-! ### Codes (R19, R21) -/

/-- Settles O6: the named codes by the definition, the sixteen codes by enumeration. -/
theorem stateCodesAreTheTableCodes : Obligations.StateCodesAreTheTableCodes :=
  ⟨rfl, rfl, rfl, rfl, rfl, rfl, rfl, rfl, rfl, rfl, by decide⟩

/-! ### Frames on the wire (R20, R79, R84 to R88) -/

/-- Outside a poll a frame presented on the wire is not received (R20). -/
theorem receiveFrame_of_not_poll {s : State} (h : isPoll s.st = false) (f : List Byte) : receiveFrame s f = s :=
  if_pos ((readSize_eq_zero_iff s).2 h)

/-- Settles O28: in a named state each wire row outside its sending state is received, and nothing is received outside a
poll. -/
theorem framesNobodyReadsChangeNothing : Obligations.FramesNobodyReadsChangeNothing := by
  intro s len lcs tail hn hpoll
  refine ⟨?_, ?_, fun hst => ?_, fun hst => ?_⟩
  · rw [exec, execAckFrame, onWire_named hn, receiveFrame_of_not_poll hpoll]
  · rw [exec, execDataD2H, onWire_named hn, receiveFrame_of_not_poll hpoll]
  · rw [exec, execNackFrame, onWire_named hn, if_neg hst, receiveFrame_of_not_poll hpoll]
  · rw [exec, execDataH2D, onWire_named hn, if_neg hst, receiveFrame_of_not_poll hpoll]

/-- Draws into OUT change nothing at or above their number. -/
theorem outRead_outUnspecified_above (s : State) {n k : Nat} (h : n ≤ k) :
    outRead (outUnspecified s n).out k = outRead s.out k := by
  rw [outUnspecified_out, outRead_outFill, if_neg (by rw [freeBytes_length]; omega)]

/-- A stored payload changes nothing at or above its length. -/
theorem outRead_outStore_above (s : State) {p : List Byte} {k : Nat} (h : p.length ≤ k) :
    outRead (outStore s p).out k = outRead s.out k := by
  cases hr : s.outRaced
  · rw [outStore_of_not_raced hr]
    exact (outRead_outFill p s.out 0 k).trans (if_neg (by omega))
  · rw [outStore_of_raced hr]
    exact outRead_outUnspecified_above s h

/-- The places of OUT that Decode-full's outcome may change: the payload's. -/
def settledBytes : FullDecode → Nat
  | .payload p => p.length
  | .badPayload n => n
  | .error _ => 0

theorem outRead_settleDecode_above (s : State) {d : FullDecode} {k : Nat} (h : settledBytes d ≤ k) :
    outRead (settleDecode s d).out k = outRead s.out k := by
  cases d with
  | payload p => exact outRead_outStore_above s h
  | badPayload n => exact outRead_outUnspecified_above s h
  | error e => rfl

/-- `storedBytes` in the data poll, for a frame that is long enough. -/
theorem storedBytes_of_dataPoll {s : State} {f : List Byte} (hst : s.st = .rrDataPoll)
    (hlen : s.lenD.toNat + 8 ≤ f.length + 1) : storedBytes s f = settledBytes
      (decodeFull (byteAt s.rxBuf 0 :: f.take (s.lenD.toNat + 7)) s.lenD (expectedCode s.lastCmd) s.cap) := by
  rw [storedBytes, if_pos ⟨hst, hlen⟩]
  split <;> simp [settledBytes, *]

/-- Only the data poll's check of a ready answer touches OUT (R74, R88). -/
theorem checkAnswer_out {s : State} (hst : s.st ≠ .rrDataPoll) (r : List Byte) : (checkAnswer s r).out = s.out := by
  obtain ⟨-, hc⟩ | ⟨-, hc⟩ | ⟨hdata, -⟩ | ⟨-, hc⟩ := checkAnswer_cases s r
  · obtain ⟨-, ha⟩ | ⟨-, ha⟩ := checkAck_cases s r <;> simp [hc, ha]
  · obtain ⟨-, hl⟩ | ⟨-, hl⟩ := checkLength_cases s r <;> simp [hc, hl]
  · exact absurd hdata hst
  · rw [hc]

theorem outRead_receiveFrame_above {s : State} {f : List Byte} {k : Nat} (h : storedBytes s f ≤ k) :
    outRead (receiveFrame s f).out k = outRead s.out k := by
  obtain ⟨-, hr⟩ | ⟨-, -, hr⟩ | ⟨-, hlen, hr⟩ := receiveFrame_cases s f <;> rw [hr]
  · rfl
  · by_cases hst : s.st = .rrDataPoll
    · have hsize : readSize s = s.lenD.toNat + 8 := by rw [readSize, hst]
      rw [hsize] at hlen ⊢
      rw [storedBytes_of_dataPoll hst hlen] at h
      rw [checkAnswer, latchRx_st, hst]
      exact outRead_settleDecode_above (latchRx s _) h
    · exact congrArg (outRead · k) (checkAnswer_out (s := latchRx s _) hst _)

/-- A checked answer ends the operation or leaves STATUS (R27, R85 to R88). -/
theorem checkAnswer_status {s : State} (r : List Byte) :
    (checkAnswer s r).st = .respond ∨ (checkAnswer s r).status = s.status := by
  obtain ⟨-, hc⟩ | ⟨-, hc⟩ | ⟨-, hc⟩ | ⟨-, hc⟩ := checkAnswer_cases s r <;> rw [hc]
  · obtain ⟨-, ha⟩ | ⟨-, ha⟩ := checkAck_cases s r <;> exact .inl (by rw [ha]; rfl)
  · obtain ⟨-, hl⟩ | ⟨-, hl⟩ := checkLength_cases s r
    · exact .inr (by rw [hl])
    · exact .inl (by rw [hl]; rfl)
  · unfold checkData
    obtain ⟨p, -, hd⟩ | ⟨n, -, hd⟩ | ⟨e, -, hd⟩ := settleDecode_cases s _ <;> exact .inl (by rw [hd]; rfl)
  · exact .inr rfl

theorem receiveFrame_status (s : State) (f : List Byte) :
    (isPoll s.st = true ∧ (receiveFrame s f).st = .respond) ∨ (receiveFrame s f).status = s.status := by
  obtain ⟨-, hr⟩ | ⟨-, -, hr⟩ | ⟨hpoll, -, hr⟩ := receiveFrame_cases s f <;> rw [hr]
  · exact .inr rfl
  · exact .inr rfl
  · exact (checkAnswer_status _).imp_left fun h => ⟨hpoll, h⟩

/-- Only the length poll's check writes LEN_D (R26, R86). -/
theorem checkAnswer_lenD {s : State} (hst : s.st ≠ .rrLenPoll) (r : List Byte) : (checkAnswer s r).lenD = s.lenD := by
  obtain ⟨-, hc⟩ | ⟨hlen, -⟩ | ⟨-, hc⟩ | ⟨-, hc⟩ := checkAnswer_cases s r
  · obtain ⟨-, ha⟩ | ⟨-, ha⟩ := checkAck_cases s r <;> simp [hc, ha]
  · exact absurd hlen hst
  · rw [hc, checkData]
    obtain ⟨p, -, hd⟩ | ⟨n, -, hd⟩ | ⟨e, -, hd⟩ :=
      settleDecode_cases s (decodeFull r s.lenD (expectedCode s.lastCmd) s.cap) <;> simp [hd]
  · rw [hc]

theorem receiveFrame_lenD {s : State} (hst : s.st ≠ .rrLenPoll) (f : List Byte) :
    (receiveFrame s f).lenD = s.lenD := by
  obtain ⟨-, hr⟩ | ⟨-, -, hr⟩ | ⟨-, -, hr⟩ := receiveFrame_cases s f <;> rw [hr]
  · rfl
  · exact checkAnswer_lenD (s := latchRx s _) hst _

/-- Settles O30: a frame the block sends moves only the transport, ATTEMPT and ST; a frame it receives, by what receiving can
do. -/
theorem wireFramesLeaveTheRest : Obligations.WireFramesLeaveTheRest := by
  intro i s t hw h
  obtain ⟨-, ⟨-, hst, rfl⟩ | ⟨-, -, -, -, hst, rfl⟩ | ⟨-, -, rfl⟩⟩ := exec_wire_cases hw h
  · have hpoll : isPoll s.st ≠ true := by rw [hst]; nofun
    simp [redeliver, hpoll]
  · have hpoll : isPoll s.st ≠ true := by rw [hst]; nofun
    simp [sendFrame, hpoll]
  · refine ⟨by simp, fun k hk => outRead_receiveFrame_above hk, fun hst => receiveFrame_lenD hst _, fun hst => ?_,
      fun hpoll => ?_, fun _ => by simp⟩
    · obtain ⟨hpoll, hresp⟩ | hstatus := receiveFrame_status s (encode i)
      · obtain hne | hs := hst
        · exact absurd hresp hne
        · rw [hs] at hpoll
          cases hpoll
      · exact hstatus
    · rw [receiveFrame_of_not_poll hpoll]
      exact ⟨rfl, rfl⟩

end Sys2Proof.Machine
end

section
/-! PROOFS. Who writes what in a step: the transaction of each move, LAST_CMD, STATUS and ST, each by the row of the step table
that the block's move follows. -/

namespace Sys2Proof.Machine

open Sys2Proof

/-! ### What acceptance leaves alone (R94) -/

theorem Accepts.keeps_ports {s t : State} {i : Instr} (h : Accepts s i t) :
    t.traffic = s.traffic ∧ t.requests = s.requests := by
  cases h <;> exact ⟨rfl, rfl⟩

/-- WRITE_COMMAND alone writes LAST_CMD, with byte 6 of the frame it latches (R98). -/
theorem Accepts.lastCmd {s t : State} {i : Instr} (h : Accepts s i t) :
    (t.lastCmd = s.lastCmd ∧ t.lastCmdValid = s.lastCmdValid) ∨
    (t.st = .wcSend ∧ t.lastCmdValid = true ∧ t.lastCmd = byteAt (txFrame t) 6) := by
  cases h with
  | @command header body hsize =>
    have hlen : (encodeFrame header body).length < 512 := by rw [encodeFrame_length]; omega
    have hcode := encodeFrame_command body fun h0 => hsize (.inl h0)
    exact .inr ⟨rfl, rfl, hcode.symm.trans (congrArg (byteAt · 6) (txFrame_latchTx hlen).symm)⟩
  | beginOp | wakeup | refusedSize | response => exact .inl ⟨rfl, rfl⟩

/-- An accepted operation ends at once or leaves STATUS (R27). -/
theorem Accepts.status {s t : State} {i : Instr} (h : Accepts s i t) : t.st = .respond ∨ t.status = s.status := by
  cases h with
  | beginOp | wakeup | refusedSize => exact .inl rfl
  | command | response => exact .inr rfl

/-! ### What a delay leaves alone (R81) -/

theorem delayStep_keeps (s : State) : (delayStep s).traffic = .delay s.params.pollMs :: s.traffic ∧
    (delayStep s).lastCmd = s.lastCmd ∧ (delayStep s).lastCmdValid = s.lastCmdValid := by
  obtain ⟨-, hd⟩ | ⟨-, hd⟩ | ⟨-, -, hd⟩ := delayStep_cases s <;> simp [hd]

theorem delayStep_status (s : State) : (delayStep s).st = .respond ∨ (delayStep s).status = s.status := by
  obtain ⟨-, hd⟩ | ⟨-, hd⟩ | ⟨-, -, hd⟩ := delayStep_cases s <;> simp [hd]

/-! ### Transactions (R41, R45) -/

/-- Settles O35: by the row of the step table. -/
theorem oneTransactionForEachMove : Obligations.OneTransactionForEachMove := by
  intro s t hsch hstep
  rw [step_free hsch, block_iff] at hstep
  cases hstep with
  | noRequest hst _ => rw [hst]
  | accept hst _ _ hacc =>
    obtain ⟨htr, -⟩ := hacc.keeps_ports
    rw [hst]
    exact htr
  | refuse hst _ _ => rw [hst]; rfl
  | send hst => rw [hst]; exact busWrite_traffic s _
  | poll hpoll _ =>
    rw [checkAnswer_traffic, latchRx_traffic, busRead_traffic]
    cases hst : s.st <;> rw [hst] at hpoll <;> cases hpoll <;> simp only [readSize, hst]
  | pollAgain hpoll _ =>
    rw [notReady_traffic, busRead_traffic]
    cases hst : s.st <;> rw [hst] at hpoll <;> cases hpoll <;> simp only [readSize, hst]
  | delay hdelay =>
    obtain ⟨htr, -⟩ := delayStep_keeps s
    rw [htr]
    cases hst : s.st <;> rw [hst] at hdelay <;> cases hdelay
  | redeliver hst => rw [hst]; exact busWrite_traffic s _
  | respond hst => rw [hst]; rfl

/-! ### LAST_CMD and STATUS (R22, R27) -/

theorem BlockStep.lastCmd {s t : State} (h : BlockStep s t) :
    (t.lastCmd = s.lastCmd ∧ t.lastCmdValid = s.lastCmdValid) ∨
    (s.st = .idle ∧ t.st = .wcSend ∧ t.lastCmdValid = true ∧ t.lastCmd = byteAt (txFrame t) 6) := by
  cases h with
  | noRequest | refuse | respond => exact .inl ⟨rfl, rfl⟩
  | accept hst _ _ hacc => exact hacc.lastCmd.imp_right fun hcmd => ⟨hst, hcmd⟩
  | send => exact .inl ⟨busWrite_lastCmd s _, busWrite_lastCmdValid s _⟩
  | redeliver => exact .inl ⟨busWrite_lastCmd s _, busWrite_lastCmdValid s _⟩
  | poll | pollAgain => exact .inl (by simp)
  | delay =>
    obtain ⟨-, hcmd⟩ := delayStep_keeps s
    exact .inl hcmd

/-- Settles O36: the block's own move by its row; nobody else but reset touches LAST_CMD. -/
theorem onlyWriteCommandWritesLastCmd : Obligations.OnlyWriteCommandWritesLastCmd := by
  intro s t hstep hreset
  cases step_iff.1 hstep with
  | block _ hb => exact hb.lastCmd
  | wait | never => exact .inl ⟨rfl, rfl⟩
  | reset _ hsch => exact absurd (by rw [hsch]; rfl) hreset
  | hostWrite => exact .inl ⟨hostWriteOut_lastCmd _ _ _, hostWriteOut_lastCmdValid _ _ _⟩

theorem BlockStep.status {s t : State} (h : BlockStep s t) :
    (s.st ≠ .respond ∧ t.st = .respond) ∨ t.status = s.status := by
  cases h with
  | noRequest | respond => exact .inr rfl
  | accept hst _ _ hacc => exact hacc.status.imp_left fun hresp => ⟨by rw [hst]; nofun, hresp⟩
  | refuse hst _ _ => exact .inl ⟨by rw [hst]; nofun, rfl⟩
  | send => exact .inr (busWrite_status s _)
  | redeliver => exact .inr (busWrite_status s _)
  | poll hpoll _ =>
    refine (checkAnswer_status _).imp (fun hresp => ⟨?_, hresp⟩) fun hs => by rw [hs]; simp
    intro hst
    rw [hst] at hpoll
    cases hpoll
  | pollAgain => exact .inr (by simp)
  | delay hdelay =>
    refine (delayStep_status s).imp_left fun hresp => ⟨?_, hresp⟩
    intro hst
    rw [hst] at hdelay
    cases hdelay

/-- Settles O37: the block's own move by its row; nobody else but reset touches STATUS. -/
theorem statusChangesOnlyIntoRespond : Obligations.StatusChangesOnlyIntoRespond := by
  intro s t hstep hreset hst
  cases step_iff.1 hstep with
  | block _ hb =>
    obtain ⟨hfrom, hto⟩ | hstatus := hb.status
    · exact (hst.elim (absurd hto) (absurd · hfrom))
    · exact hstatus
  | wait | never => rfl
  | reset _ hsch => exact absurd (by rw [hsch]; rfl) hreset
  | hostWrite => exact hostWriteOut_status _ _ _

/-! ### ST (R20, R92) -/

/-- IDLE is left only by taking a request off the host port (R20, R94). -/
theorem BlockStep.from_idle {s t : State} (h : BlockStep s t) (hst : s.st = .idle) :
    t = s ∨ ∃ r, s.requests = r :: t.requests := by
  obtain ⟨-, rfl⟩ | ⟨r, rest, hreq, ⟨i, extra, hdec, hx⟩ | ⟨e, -, rfl⟩⟩ := block_idle_cases hst (block_iff.2 h)
  · exact .inl rfl
  · obtain ⟨-, hkeep⟩ :=
      ((exec_idle_iff (s := takeRequest s r rest) hst (decodeHost_port hdec)).1 hx).keeps_ports
    exact .inr ⟨r, by rw [hreq, hkeep]; rfl⟩
  · exact .inr ⟨r, hreq⟩

/-- With TMO = 0 a response wait is left only by a ready answer (R92). -/
theorem BlockStep.from_responseWait {s t : State} (h : BlockStep s t) (hst : inResponseWait s.st = true)
    (htmo : s.tmo = 0) : t.st = pollOf s.st ∨ t.st = delayOf s.st ∨ (isPoll s.st = true ∧ pollReadyNow s = true) := by
  cases h with
  | noRequest hs _ | accept hs _ _ _ | refuse hs _ _ | send hs | redeliver hs | respond hs =>
    rw [hs] at hst
    cases hst
  | poll hpoll hready => exact .inr (.inr ⟨hpoll, hready⟩)
  | pollAgain => exact .inr (.inl (by simp))
  | delay hdelay =>
    have hlim : pollLimit s = 0 := by
      cases hs : s.st <;> rw [hs] at hst hdelay <;> cases hdelay <;> cases hst <;> simp [pollLimit, hs, htmo]
    exact .inl (by simp [delayStep, hlim])

/-- A state of a response wait is its own poll or its own delay state. -/
theorem pollOf_or_delayOf {st : St} (h : inResponseWait st = true) : st = pollOf st ∨ st = delayOf st := by
  cases st <;> cases h
  case rrLenPoll | rrDataPoll => exact .inl rfl
  case rrLenDelay | rrDataDelay => exact .inr rfl

/-- Reset apart, only the block's own move changes ST (R20). -/
theorem step_cases_st {s t : State} (h : step s = .next t) (hreset : s.schedule.head? ≠ some .reset) :
    (blockMoves s = true ∧ BlockStep { s with schedule := s.schedule.tail } t) ∨ t.st = s.st := by
  cases step_iff.1 h with
  | block hm hb => exact .inl ⟨hm, hb⟩
  | wait | never => exact .inr rfl
  | reset _ hsch => exact absurd (by rw [hsch]; rfl) hreset
  | hostWrite => exact .inr (hostWriteOut_st _ _ _)

/-- Settles O57: by whether the block moves. -/
theorem statesAreLeftOnlyByTheirAnswer : Obligations.StatesAreLeftOnlyByTheirAnswer := by
  intro s t hstep hreset
  obtain ⟨hm, hb⟩ | hkeep := step_cases_st hstep hreset
  · refine ⟨fun _ => hm, fun hst hne => ?_, fun hst htmo => ?_⟩
    · obtain rfl | hreq := hb.from_idle hst
      · exact absurd hst hne
      · exact hreq
    · exact (hb.from_responseWait hst htmo).imp_right fun h => h.imp_right fun ⟨hpoll, hready⟩ => ⟨hpoll, hm, hready⟩
  · refine ⟨fun hne => absurd hkeep hne, fun hst hne => absurd (hkeep.trans hst) hne, fun hst _ => ?_⟩
    rw [hkeep]
    exact (pollOf_or_delayOf hst).imp_right .inl

/-! ### Waits and scheduled moves (R20, R131) -/

/-- Settles O55: by induction on the number of waits. -/
theorem waitsChangeOnlyTheSchedule : Obligations.WaitsChangeOnlyTheSchedule := by
  intro n
  induction n with
  | zero =>
    intro s rest _ hsch
    exact congrArg (fun q => some { s with schedule := q }) hsch
  | succ n ih =>
    intro s rest hn hsch
    rw [List.replicate_succ, List.cons_append] at hsch
    rw [stepN, step_wait hn hsch]
    exact ih { s with schedule := List.replicate n .wait ++ rest } rest hn rfl

/-- What a step answers, with another schedule in its next state. -/
def withSchedule (rest : List Move) : Host.Outcome State Fault Refusal → Host.Outcome State Fault Refusal
  | .next t => .next { t with schedule := rest }
  | .fault f => .fault f
  | .refused r => .refused r

/-- Acceptance does not look at the schedule. -/
theorem exec_idle_withSchedule {s : State} {i : Instr} (hst : s.st = .idle) (hi : i.port = .host) (rest : List Move) :
    exec i { s with schedule := rest } = withSchedule rest (exec i s) := by
  have hst' : ({ s with schedule := rest } : State).st = .idle := hst
  cases i with
  | beginOp => simp only [exec, execBegin, accept_idle hst, accept_idle hst']; rfl
  | wakeup => simp only [exec, execWakeup, accept_idle hst, accept_idle hst']; rfl
  | writeCommand header body =>
    simp only [exec, execWriteCommand, accept_idle hst, accept_idle hst']
    split <;> rfl
  | readResponse cap tmo =>
    simp only [exec, execReadResponse, accept_idle hst, accept_idle hst']
    split <;> rfl
  | ackFrame | nackFrame | dataH2D _ _ _ | dataD2H _ _ _ => cases hi

theorem fetchRequest_nil {s : State} (hreq : s.requests = []) : fetchRequest s = .settled s := by
  simp only [fetchRequest, hreq]

theorem fetchRequest_withSchedule {s : State} (hst : s.st = .idle) (rest : List Move) :
    runFetched (fetchRequest { s with schedule := rest }) = withSchedule rest (runFetched (fetchRequest s)) := by
  obtain ⟨reqs, hreq⟩ : ∃ reqs, s.requests = reqs := ⟨_, rfl⟩
  cases reqs with
  | nil =>
    rw [fetchRequest_nil hreq, fetchRequest_nil (s := { s with schedule := rest }) hreq]
    rfl
  | cons r others =>
    cases hdec : decodeHost (requestBytes s.draws r) with
    | ok i extra =>
      simp only [fetchRequest, hreq, hdec]
      exact exec_idle_withSchedule (s := takeRequest s r others) hst (decodeHost_port hdec) rest
    | error e => simp only [fetchRequest, hreq, hdec]; rfl

theorem sendFrame_withSchedule (s : State) (f : List Byte) (rest : List Move) :
    sendFrame { s with schedule := rest } f = { sendFrame s f with schedule := rest } := by
  simp only [sendFrame, busWrite, dropAnswer_eq, issue]

theorem redeliver_withSchedule (s : State) (rest : List Move) :
    redeliver { s with schedule := rest } = { redeliver s with schedule := rest } := by
  simp only [redeliver, busWrite, dropAnswer_eq, issue]

theorem delayStep_withSchedule (s : State) (rest : List Move) :
    delayStep { s with schedule := rest } = { delayStep s with schedule := rest } := by
  have hlim : pollLimit { s with schedule := rest } = pollLimit s := rfl
  simp only [delayStep, hlim]
  split
  · rfl
  · split <;> rfl

theorem busRead_withSchedule (s : State) (n : Nat) (rest : List Move) :
    busRead { s with schedule := rest } n = { busRead s n with schedule := rest } := by
  simp only [busRead, dropAnswer_eq, issue]

theorem settleDecode_withSchedule (s : State) (d : FullDecode) (rest : List Move) :
    settleDecode { s with schedule := rest } d = { settleDecode s d with schedule := rest } := by
  cases d with
  | payload p =>
    simp only [settleDecode, outStore]
    split <;> rfl
  | badPayload n => rfl
  | error e => rfl

theorem checkAck_withSchedule (s : State) (r : List Byte) (rest : List Move) :
    checkAck { s with schedule := rest } r = { checkAck s r with schedule := rest } := by
  unfold checkAck
  split <;> rfl

theorem checkLength_withSchedule (s : State) (r : List Byte) (rest : List Move) :
    checkLength { s with schedule := rest } r = { checkLength s r with schedule := rest } := by
  unfold checkLength
  split <;> rfl

theorem checkAnswer_withSchedule (s : State) (r : List Byte) (rest : List Move) :
    checkAnswer { s with schedule := rest } r = { checkAnswer s r with schedule := rest } := by
  unfold checkAnswer
  dsimp only
  split
  · exact checkAck_withSchedule s r rest
  · exact checkLength_withSchedule s r rest
  · exact settleDecode_withSchedule s _ rest
  · rfl

theorem poll_withSchedule {s : State} (hpoll : isPoll s.st = true) (rest : List Move) :
    runFetched (blockMove { s with schedule := rest }) = withSchedule rest (runFetched (blockMove s)) := by
  have hready : pollReadyNow { s with schedule := rest } = pollReadyNow s := rfl
  have hbytes : pollBytes { s with schedule := rest } = pollBytes s := rfl
  have hsize : readSize { s with schedule := rest } = readSize s := rfl
  rw [block_poll_eq hpoll, block_poll_eq (s := { s with schedule := rest }) hpoll, hready, hbytes, hsize,
    busRead_withSchedule]
  split
  · exact congrArg _ (checkAnswer_withSchedule (latchRx (busRead s (readSize s)) (pollBytes s)) (pollBytes s) rest)
  · rfl

/-- The block's own move neither reads nor changes the schedule (R20). -/
theorem block_withSchedule (s : State) (rest : List Move) :
    runFetched (blockMove { s with schedule := rest }) = withSchedule rest (runFetched (blockMove s)) := by
  obtain ⟨st, hst⟩ : ∃ st, s.st = st := ⟨_, rfl⟩
  cases st with
  | idle =>
    rw [blockMove_idle hst, blockMove_idle (s := { s with schedule := rest }) hst]
    exact fetchRequest_withSchedule hst rest
  | wcSend =>
    rw [block_send hst, block_send (s := { s with schedule := rest }) hst, sendFrame_withSchedule]
    rfl
  | rrNack =>
    rw [block_nack hst, block_nack (s := { s with schedule := rest }) hst, redeliver_withSchedule]
    rfl
  | respond =>
    rw [block_respond hst, block_respond (s := { s with schedule := rest }) hst]
    rfl
  | wcAckPoll | rrLenPoll | rrDataPoll => exact poll_withSchedule (by rw [hst]; rfl) rest
  | wcAckDelay | rrLenDelay | rrDataDelay =>
    have hdelay : isDelay s.st = true := by rw [hst]; rfl
    rw [block_delay hdelay, block_delay (s := { s with schedule := rest }) hdelay, delayStep_withSchedule]
    rfl
  | unused k =>
    have hn : isNamed s.st = false := by rw [hst]; rfl
    rw [block_unused hn, block_unused (s := { s with schedule := rest }) hn]
    rfl

/-- Settles O54: both steps are the block's own move, which the schedule does not enter. -/
theorem scheduledBlockMoveIsTheFreeMove : Obligations.ScheduledBlockMoveIsTheFreeMove := by
  intro s rest hsch
  have hstep : step s = withSchedule rest (step { s with schedule := [] }) := by
    rw [step_block hsch, step_free rfl]
    exact block_withSchedule { s with schedule := [] } rest
  exact ⟨fun t h => by rw [hstep, h]; rfl, fun f h => by rw [hstep, h]; rfl⟩

end Sys2Proof.Machine
end

section
/-! PROOFS. OUT: what the block stores there, who else can change it, and what a host write does while a READ_RESPONSE runs and
while none does (R37, R50, R74, R118). -/

namespace Sys2Proof.Machine

open Sys2Proof

/-! ### The block's own stores (R37, R74) -/

/-- Decode-full lets no more bytes into OUT than CAP allows (R74 check (6)). -/
theorem settledBytes_decodeFull_le (r : List Byte) (ld ec cap : Byte) :
    settledBytes (decodeFull r ld ec cap) ≤ cap.toNat := by
  cases hd : decodeFull r ld ec cap with
  | payload p =>
    obtain ⟨-, hp, -⟩ := decodeFull_payload_length hd
    exact hp
  | badPayload n =>
    obtain ⟨-, hn, -⟩ := decodeFull_badPayload_le hd
    exact hn
  | error e => exact Nat.zero_le _

/-- Decode-full ends the operation, whatever it finds (R88). -/
theorem settleDecode_st (s : State) (d : FullDecode) : (settleDecode s d).st = .respond := by
  cases d <;> rfl

theorem outRead_checkData_above {s : State} (r : List Byte) {k : Nat} (h : s.cap.toNat ≤ k) :
    outRead (checkData s r).out k = outRead s.out k :=
  outRead_settleDecode_above s ((settledBytes_decodeFull_le r s.lenD (expectedCode s.lastCmd) s.cap).trans h)

theorem Accepts.out {s t : State} {i : Instr} (h : Accepts s i t) : t.out = s.out := by
  cases h <;> rfl

theorem delayStep_out (s : State) : (delayStep s).out = s.out := by
  obtain ⟨-, hd⟩ | ⟨-, hd⟩ | ⟨-, -, hd⟩ := delayStep_cases s <;> simp [hd]

/-- The block's own move leaves OUT as it is, or answers a data poll and stores below CAP only. -/
theorem BlockStep.out {s t : State} (h : BlockStep s t) :
    t.out = s.out ∨
    (s.st = .rrDataPoll ∧ t.st = .respond ∧ ∀ k, s.cap.toNat ≤ k → outRead t.out k = outRead s.out k) := by
  cases h with
  | noRequest | refuse | respond => exact .inl rfl
  | accept _ _ _ hacc => exact .inl hacc.out
  | send => exact .inl (busWrite_out s _)
  | redeliver => exact .inl (busWrite_out s _)
  | pollAgain => exact .inl (busRead_out s _)
  | delay => exact .inl (delayStep_out s)
  | poll hpoll _ =>
    have hst : (latchRx (busRead s (readSize s)) (pollBytes s)).st = s.st := busRead_st s _
    have hout : (latchRx (busRead s (readSize s)) (pollBytes s)).out = s.out := busRead_out s _
    have hcap : (latchRx (busRead s (readSize s)) (pollBytes s)).cap = s.cap := busRead_cap s _
    generalize latchRx (busRead s (readSize s)) (pollBytes s) = s₁ at hst hout hcap ⊢
    by_cases hdata : s.st = .rrDataPoll
    · rw [checkAnswer, hst, hdata, ← hcap, ← hout]
      exact .inr ⟨rfl, settleDecode_st s₁ _, fun k hk => outRead_checkData_above _ hk⟩
    · exact .inl ((checkAnswer_out (by rwa [hst]) _).trans hout)

/-- Settles O39: by the agent that moves; the block's own move stores in the data poll alone, and there below CAP. -/
theorem outIsWrittenBelowCapacityOnly : Obligations.OutIsWrittenBelowCapacityOnly := by
  intro s t hstep hhost k hk
  cases step_iff.1 hstep with
  | block _ hb =>
    obtain hout | ⟨hst, hresp, habove⟩ := hb.out
    · exact absurd (congrArg (outRead · k) hout) hk
    · exact .inl ⟨hst, hresp, Nat.lt_of_not_le fun hle => hk (habove k hle)⟩
  | wait | never => exact absurd rfl hk
  | @reset rest _ hsch =>
    refine .inr ⟨by rw [hsch]; rfl, ?_⟩
    by_contra hrun
    have hout : (takeReset { s with schedule := rest }).out = s.out := (takeReset_out _).trans (if_neg hrun)
    exact hk (congrArg (outRead · k) hout)
  | hostWrite _ hsch => exact absurd (by rw [hsch]; rfl) (hhost _ _)

/-! ### Host access to OUT (R50) -/

theorem readRunning_of_inRead {s : State} (h : inRead s.st = true) : readRunning s = true := by
  unfold readRunning
  cases hst : s.st <;> rw [hst] at h <;> cases h

theorem hostWriteOut_of_running {s : State} (h : readRunning s = true) (i : Nat) (v : Byte) :
    hostWriteOut s i v = { loseOut s with outRaced := true } :=
  if_pos h

theorem hostWriteOut_of_not_running {s : State} (h : readRunning s = false) (i : Nat) (v : Byte) :
    hostWriteOut s i v = { s with out := outWrite s.out i v } :=
  if_neg (by rw [h]; nofun)

theorem hostReadOut_of_running {s : State} (h : readRunning s = true) (n k : Nat) :
    hostReadOut s n k = some (Config.freeOutRead n k) :=
  if_pos h

theorem hostReadOut_of_not_running {s : State} (h : readRunning s = false) (n k : Nat) :
    hostReadOut s n k = outRead s.out k :=
  if_neg (by rw [h]; nofun)

/-- ST and OP decide whether a READ_RESPONSE runs, and a host write to OUT touches neither. -/
theorem readRunning_hostWriteOut (s : State) (i : Nat) (v : Byte) :
    readRunning (hostWriteOut s i v) = readRunning s := by
  simp only [readRunning, hostWriteOut_st, hostWriteOut_op]

/-- Draws into OUT put a free byte at every place below their number. -/
theorem outRead_outUnspecified_below (s : State) {n k : Nat} (h : k < n) :
    outRead (outUnspecified s n).out k = some (Config.freeByte (s.draws + k)) := by
  rw [outUnspecified_out, outRead_outFill, if_pos (by rw [freeBytes_length]; omega)]
  simp [freeBytes, h]

/-- After a host write raced with the operation, what the operation stores are free bytes (R50). -/
theorem outRead_outStore_of_raced {s : State} (hraced : s.outRaced = true) {p : List Byte} {k : Nat}
    (h : k < p.length) : outRead (outStore s p).out k = some (Config.freeByte (s.draws + k)) := by
  rw [outStore_of_raced hraced]
  exact outRead_outUnspecified_below s h

theorem outRead_hostWriteOut_of_running {s : State} (h : readRunning s = true) (i : Nat) (v : Byte) {k : Nat}
    (hk : k < 255) : outRead (hostWriteOut s i v).out k = some (Config.freeByte (s.draws + k)) := by
  simp only [hostWriteOut_of_running h]
  exact outRead_loseOut s hk

theorem hostWriteOut_outRaced_of_running {s : State} (h : readRunning s = true) (i : Nat) (v : Byte) :
    (hostWriteOut s i v).outRaced = true := by
  rw [hostWriteOut_of_running h]

/-- Settles O44: by whether a READ_RESPONSE runs when the host writes. -/
theorem hostWriteDuringReadSpoilsOut : Obligations.HostWriteDuringReadSpoilsOut := by
  intro s i v rest hn hsch
  have hrun : readRunning { s with schedule := rest } = readRunning s := rfl
  refine ⟨_, step_hostWrite hn hsch, hostWriteOut_st _ _ _, fun hread => ?_, fun hread n k => ?_, fun hidle => ?_⟩
  · have hrunning := hrun.trans (readRunning_of_inRead hread)
    exact ⟨fun k hk => outRead_hostWriteOut_of_running hrunning i.val v hk,
      fun p k hk => outRead_outStore_of_raced (hostWriteOut_outRaced_of_running hrunning i.val v) hk⟩
  · exact hostReadOut_of_running (readRunning_of_inRead hread) n k
  · have hidle' := hrun.trans hidle
    refine ⟨?_, fun k hk => ?_, fun n k =>
      hostReadOut_of_not_running ((readRunning_hostWriteOut _ _ _).trans hidle') n k⟩
    all_goals rw [hostWriteOut_of_not_running hidle']
    · exact outRead_outWrite_same s.out i.val v
    · exact outRead_outWrite_other s.out v hk

end Sys2Proof.Machine
end

section
/-! PROOFS. The encodings: one equation for each row of the opcode table, the descriptors the decoder reserves, and from
them the round trips of the two decoders and the refusal of a reserved descriptor (R53 to R56, R59, R65, R66, R69). -/

namespace Sys2Proof.Machine

open Sys2Proof

/-! ### The rows on the host port (R53, R54, R56) -/

/-- The descriptor's four bytes stand before its data, OP first (R39, R53). -/
theorem descriptorBytes_append (q : Descriptor) (data : List Byte) : descriptorBytes q ++ data =
    q.extractLsb' 0 8 :: q.extractLsb' 8 8 :: q.extractLsb' 16 8 :: q.extractLsb' 24 8 :: data :=
  rfl

/-- `HostRow bytes i rest`: the bytes are a request of `i`'s row of the table, followed by `rest`. -/
inductive HostRow : List Byte → Instr → List Byte → Prop
  | beginOp (rest : List Byte) : HostRow (0x00 :: 0x00 :: 0x00 :: 0x00 :: rest) .beginOp rest
  | wakeup (rest : List Byte) : HostRow (0x01 :: 0x00 :: 0x00 :: 0x00 :: rest) .wakeup rest
  | writeCommand {hlen blen : Byte} {data : List Byte} (hdata : hlen.toNat + blen.toNat ≤ data.length) :
      HostRow (0x02 :: hlen :: blen :: 0x00 :: data)
        (.writeCommand (data.take hlen.toNat) ((data.drop hlen.toNat).take blen.toNat))
        (data.drop (hlen.toNat + blen.toNat))
  | readResponse (cap lo hi : Byte) (rest : List Byte) :
      HostRow (0x03 :: cap :: lo :: hi :: rest) (.readResponse cap (hi ++ lo)) rest

theorem decodeHost_of_hostRow {bytes rest : List Byte} {i : Instr} (h : HostRow bytes i rest) :
    decodeHost bytes = .ok i rest := by
  cases h with
  | beginOp | wakeup | readResponse => rfl
  | writeCommand hdata => exact if_neg (Nat.not_lt.2 hdata)

theorem hostRow_of_decodeHost {bytes rest : List Byte} {i : Instr} (h : decodeHost bytes = .ok i rest) :
    HostRow bytes i rest := by
  unfold decodeHost at h
  split at h
  · rename_i op a b0 b1 data
    split_ifs at h with h0 hz h1 hz h2 hb hshort h3 <;> cases h
    · obtain ⟨rfl, rfl, rfl⟩ := hz
      exact h0 ▸ .beginOp _
    · obtain ⟨rfl, rfl, rfl⟩ := hz
      exact h1 ▸ .wakeup _
    · obtain rfl : b1 = 0 := not_not.1 hb
      exact h2 ▸ .writeCommand (Nat.not_lt.1 hshort)
    · exact h3 ▸ .readResponse a b0 b1 _
  · cases h

/-- The host decoder accepts exactly the table's four rows. -/
theorem decodeHost_ok_iff {bytes rest : List Byte} {i : Instr} :
    decodeHost bytes = .ok i rest ↔ HostRow bytes i rest :=
  ⟨hostRow_of_decodeHost, decodeHost_of_hostRow⟩

/-- A 16-bit field is its high byte before its low byte. -/
theorem high_append_low {w : Nat} (x : BitVec w) (start : Nat) :
    x.extractLsb' (start + 8) 8 ++ x.extractLsb' start 8 = x.extractLsb' start 16 :=
  BitVec.extractLsb'_append_extractLsb'_eq_extractLsb' rfl

theorem ofNat8_toNat {n : Nat} (h : n ≤ 255) : (BitVec.ofNat 8 n).toNat = n := by
  simp only [BitVec.toNat_ofNat]
  omega

/-- A header and a body that HLEN and BLEN can count are a WRITE_COMMAND request, with nothing left over. -/
theorem hostRow_encode_writeCommand {header body : List Byte} (hh : header.length ≤ 255) (hb : body.length ≤ 255) :
    HostRow (encode (.writeCommand header body)) (.writeCommand header body) [] := by
  have hrow := HostRow.writeCommand (hlen := BitVec.ofNat 8 header.length) (blen := BitVec.ofNat 8 body.length)
    (data := header ++ body) (by rw [ofNat8_toNat hh, ofNat8_toNat hb, List.length_append])
  rw [ofNat8_toNat hh, ofNat8_toNat hb, ← List.length_append, List.take_left, List.drop_left, List.take_length,
    List.drop_length] at hrow
  exact hrow

/-- A READ_RESPONSE request carries TMO low byte first (R39). -/
theorem hostRow_encode_readResponse (cap : Byte) (tmo : Half) :
    HostRow (encode (.readResponse cap tmo)) (.readResponse cap tmo) [] := by
  have hrow := HostRow.readResponse cap (tmo.extractLsb' 0 8) (tmo.extractLsb' 8 8) []
  rwa [high_append_low tmo 0, BitVec.extractLsb'_eq_self] at hrow

/-- The data of a WRITE_COMMAND request is its header, its body and what follows them (R56). -/
theorem hostRow_encode {bytes rest : List Byte} {i : Instr} (h : HostRow bytes i rest) :
    encode i ++ rest = bytes ∧ i.wellFormed = true := by
  cases h with
  | beginOp | wakeup => exact ⟨rfl, rfl⟩
  | @writeCommand hlen blen data hdata =>
    have hheader : (data.take hlen.toNat).length = hlen.toNat := List.length_take_of_le (by omega)
    have hbody : ((data.drop hlen.toNat).take blen.toNat).length = blen.toNat :=
      List.length_take_of_le (by rw [List.length_drop]; omega)
    have hsplit : data.take hlen.toNat ++ ((data.drop hlen.toNat).take blen.toNat ++
        data.drop (hlen.toNat + blen.toNat)) = data := by
      rw [← List.drop_drop, List.take_append_drop, List.take_append_drop]
    constructor
    · simp only [encode, hheader, hbody, BitVec.ofNat_toNat, BitVec.setWidth_eq, List.append_assoc, hsplit]
      rfl
    · have hh := hlen.isLt
      have hb := blen.isLt
      simp only [Instr.wellFormed, hheader, hbody, Bool.and_eq_true, decide_eq_true_eq]
      omega
  | readResponse cap lo hi rest =>
    have hlo : (hi ++ lo).extractLsb' 0 8 = lo := BitVec.extractLsb'_append_eq_right
    have hhi : (hi ++ lo).extractLsb' 8 8 = hi := BitVec.extractLsb'_append_eq_left
    exact ⟨by rw [encode, hlo, hhi]; rfl, rfl⟩

/-- Settles O2: what the decoder accepts is a row of the table, and each row is its instruction's encoding. -/
theorem hostDecodeLosesNoByte : Obligations.HostDecodeLosesNoByte := by
  intro bytes rest i h
  obtain ⟨hbytes, hwf⟩ := hostRow_encode (decodeHost_ok_iff.1 h)
  exact ⟨hbytes, hwf, decodeHost_port h⟩

/-! ### The rows on the transport (R59, R65, R66, R69) -/

/-- A data frame is neither the ack frame nor the redelivery request: its sixth byte is a direction byte (R63 to R66). -/
theorem dataFrame_not_fixed {len lcs tfi : Byte} {tail : List Byte} (htfi : tfi ≠ 0x00) :
    0x00 :: 0x00 :: 0xFF :: len :: lcs :: tfi :: tail ≠ ackBytes ∧
      0x00 :: 0x00 :: 0xFF :: len :: lcs :: tfi :: tail ≠ nackBytes := by
  constructor <;> exact fun h => htfi (congrArg (byteAt · 5) h)

theorem decodeWire_dataH2D (len lcs : Byte) (tail : List Byte) :
    decodeWire (encode (.dataH2D len lcs tail)) = .ok (.dataH2D len lcs tail) [] := by
  obtain ⟨hack, hnack⟩ := dataFrame_not_fixed (len := len) (lcs := lcs) (tfi := tfiH2D) (tail := tail) (by decide)
  exact (if_neg hack).trans (if_neg hnack)

theorem decodeWire_dataD2H (len lcs : Byte) (tail : List Byte) :
    decodeWire (encode (.dataD2H len lcs tail)) = .ok (.dataD2H len lcs tail) [] := by
  obtain ⟨hack, hnack⟩ := dataFrame_not_fixed (len := len) (lcs := lcs) (tfi := tfiD2H) (tail := tail) (by decide)
  exact (if_neg hack).trans (if_neg hnack)

/-- Settles O1: row by row, the host's four through the rows that the decoder accepts. -/
theorem decodeOfEncodeIsTheInstruction : Obligations.DecodeOfEncodeIsTheInstruction := by
  intro i hwf
  cases i with
  | beginOp => exact decodeHost_of_hostRow (.beginOp [])
  | wakeup => exact decodeHost_of_hostRow (.wakeup [])
  | writeCommand header body =>
    simp only [Instr.wellFormed, Bool.and_eq_true, decide_eq_true_eq] at hwf
    exact decodeHost_of_hostRow (hostRow_encode_writeCommand hwf.1 hwf.2)
  | readResponse cap tmo => exact decodeHost_of_hostRow (hostRow_encode_readResponse cap tmo)
  | ackFrame | nackFrame => rfl
  | dataH2D len lcs tail => exact decodeWire_dataH2D len lcs tail
  | dataD2H len lcs tail => exact decodeWire_dataD2H len lcs tail

/-- Settles O5: each word's bytes are decoded. -/
theorem sampleWordsDecode : Obligations.SampleWordsDecode := by
  unfold Obligations.SampleWordsDecode
  decide

/-- Settles O4: each descriptor, written as its bytes, is the request of a row of the table. -/
theorem operationCodesAndOperandFields : Obligations.OperationCodesAndOperandFields := by
  intro q data
  rw [descriptorBytes_append]
  refine ⟨?_, ?_, fun hop hhigh hlen => ?_, fun hop => ?_⟩
  · rintro rfl
    exact decodeHost_of_hostRow (.beginOp data)
  · rintro rfl
    exact decodeHost_of_hostRow (.wakeup data)
  · have hbody : (data.drop (q.extractLsb' 8 8).toNat).length ≤ (q.extractLsb' 16 8).toNat := by
      rw [List.length_drop]
      omega
    rw [hop, hhigh, decodeHost_of_hostRow (.writeCommand hlen.ge), List.take_of_length_le hbody, ← hlen,
      List.drop_length]
  · rw [hop, decodeHost_of_hostRow (.readResponse _ _ _ data), high_append_low q 16]

/-! ### Reserved descriptors (R55) -/

/-- The descriptor's three upper bytes are zero exactly when Q[31:8] is. -/
theorem upperBytes_eq_zero_iff (q : Descriptor) : q.extractLsb' 8 24 = 0 ↔
    q.extractLsb' 8 8 = 0 ∧ q.extractLsb' 16 8 = 0 ∧ q.extractLsb' 24 8 = 0 := by
  simp only [← BitVec.toNat_inj, BitVec.extractLsb'_toNat, Nat.shiftRight_eq_div_pow, BitVec.ofNat_eq_ofNat,
    BitVec.toNat_ofNat]
  omega

theorem four_le_op_iff (op : Byte) : 4 ≤ op.toNat ↔ op ≠ 0x00 ∧ op ≠ 0x01 ∧ op ≠ 0x02 ∧ op ≠ 0x03 := by
  bv_omega

/-- Along the decoder's branches: OP chooses the row, and the bytes that the row wants zero decide. -/
theorem decodeHost_reserved_iff (op a b0 b1 : Byte) (data : List Byte) :
    decodeHost (op :: a :: b0 :: b1 :: data) = .error (.reserved op) ↔
      4 ≤ op.toNat ∨ ((op = 0x00 ∨ op = 0x01) ∧ ¬(a = 0 ∧ b0 = 0 ∧ b1 = 0)) ∨ (op = 0x02 ∧ b1 ≠ 0) := by
  rw [four_le_op_iff]
  unfold decodeHost
  dsimp only
  split_ifs <;> simp_all

/-- Settles O3: the descriptor's bytes say what R55 says of its fields. -/
theorem decoderReservesExactlyTheListedDescriptors : Obligations.DecoderReservesExactlyTheListedDescriptors := by
  intro q data
  rw [descriptorBytes_append, decodeHost_reserved_iff, ReservedDescriptor, ← upperBytes_eq_zero_iff]

/-- Settles O19: an IDLE block refuses a request that does not decode, and a reserved one does not. -/
theorem reservedDescriptorsAreRefused : Obligations.ReservedDescriptorsAreRefused := by
  intro s r rest hst hsch hreq hres
  have hdec : decodeHost (requestBytes s.draws r) = .error (.reserved (r.desc.extractLsb' 0 8)) := by
    rw [requestBytes, List.append_assoc]
    exact (decoderReservesExactlyTheListedDescriptors _ _).2 hres
  exact (step_free hsch).trans (next_of_blockStep (.refuse hst hreq hdec))

end Sys2Proof.Machine
end

section
/-! PROOFS. The data frame: its layout and its two checksums, and what a whole frame does in the poll that reads it: the ack
ends WRITE_COMMAND, a built response is delivered (R59 to R65, R74, R85, R88). -/

namespace Sys2Proof.Machine

open Sys2Proof

/-! ### Layout (R59, R60) -/

theorem byteAt_frameBuild_len (t : Byte) (x : List Byte) :
    byteAt (frameBuild t x) 3 = BitVec.ofNat 8 (x.length + 1) := by
  rw [frameBuild_eq]
  rfl

theorem byteAt_frameBuild_lcs (t : Byte) (x : List Byte) :
    byteAt (frameBuild t x) 4 = neg8 (byteAt (frameBuild t x) 3) := by
  rw [frameBuild_eq]
  rfl

/-- Behind the six bytes of its head a frame holds its data, then DCS and POSTAMBLE. -/
theorem byteAt_frameBuild_tail (t : Byte) (x : List Byte) (k : Nat) :
    byteAt (frameBuild t x) (6 + k) = byteAt (x ++ [neg8 (sum8 (t :: x)), 0x00]) k := by
  rw [frameBuild_eq, Nat.add_comm 6 k]
  rfl

theorem byteAt_frameBuild_dcs (t : Byte) (x : List Byte) :
    byteAt (frameBuild t x) (6 + x.length) = neg8 (sum8 (t :: x)) := by
  rw [byteAt_frameBuild_tail, byteAt_append_right le_rfl, Nat.sub_self, byteAt_cons_zero]

theorem byteAt_frameBuild_postamble (t : Byte) (x : List Byte) : byteAt (frameBuild t x) (7 + x.length) = 0x00 := by
  rw [show 7 + x.length = 6 + (x.length + 1) by omega, byteAt_frameBuild_tail, byteAt_append_right (by omega),
    Nat.add_sub_cancel_left]
  rfl

/-- LEN counts the direction byte and the data (R59). -/
theorem byteAt_frameBuild_len_toNat (t : Byte) {x : List Byte} (h : x.length ≤ 254) :
    (byteAt (frameBuild t x) 3).toNat = x.length + 1 := by
  rw [byteAt_frameBuild_len, ofNat8_toNat (by omega)]

/-- Settles O7: field by field. -/
theorem dataFrameLayout : Obligations.DataFrameLayout := by
  intro t x h
  have hsize := frameBuild_length t x
  have hlen := byteAt_frameBuild_len_toNat t h
  have hhead := frameBuild_eq t x
  refine ⟨hsize, by omega, by omega, by rw [hhead]; rfl, by rw [hhead]; rfl, by rw [hhead]; rfl, hlen,
    byteAt_frameBuild_lcs t x, by rw [hhead]; rfl, fun k hk => ?_, byteAt_frameBuild_dcs t x,
    byteAt_frameBuild_postamble t x⟩
  rw [byteAt_frameBuild_tail, byteAt_append_left hk]

/-! ### Checksums (R61, R62) -/

/-- A byte and its checksum make 0 modulo 256. -/
theorem add_neg8_toNat (b : Byte) : (b.toNat + (neg8 b).toNat) % 256 = 0 := by
  have hb := b.isLt
  rw [neg8_toNat]
  omega

/-- The bytes that a checksum is taken of and the checksum sum to 0. -/
theorem sum8_append_neg8 (l : List Byte) : sum8 (l ++ [neg8 (sum8 l)]) = 0 := by
  have hcancel := add_neg8_toNat (sum8 l)
  rw [sum8_toNat] at hcancel
  rw [sum8_eq_zero_iff, byteTotal_append, byteTotal, byteTotal]
  omega

/-- A checksum is 0 exactly when the sum is. -/
theorem neg8_eq_zero_iff (b : Byte) : neg8 b = 0 ↔ b = 0 := by
  rw [neg8_eq]
  exact neg_eq_zero

/-- Settles O8: each checksum is the negation of what it covers. -/
theorem checksumsCancel : Obligations.ChecksumsCancel := by
  intro t x h
  dsimp only
  have hlen := byteAt_frameBuild_len_toNat t h
  rw [byteAt_frameBuild_dcs, byteAt_frameBuild_lcs]
  have hlcs := neg8_toNat (byteAt (frameBuild t x) 3)
  exact ⟨rfl, add_neg8_toNat _, by omega, by omega, rfl, sum8_append_neg8 (t :: x),
    (neg8_eq_zero_iff _).trans (sum8_eq_zero_iff _)⟩

/-! ### A whole frame in the poll that reads it (R81, R85, R88) -/

/-- A frame of exactly the bytes that the poll reads is checked behind the status byte. -/
theorem receiveFrame_whole {s : State} {f : List Byte} (h : readSize s = f.length + 1) :
    receiveFrame s f =
      checkAnswer (latchRx s (byteAt s.rxBuf 0 :: f)) (byteAt s.rxBuf 0 :: f) := by
  rw [receiveFrame, if_neg (by omega), if_neg (by omega), h, Nat.add_sub_cancel, List.take_length]

/-- Settles O23: the ack frame fills the ack poll's read, and its six bytes are the ones compared. -/
theorem ackFrameEndsTheAckWait : Obligations.AckFrameEndsTheAckWait := by
  intro s hst
  have hsize : readSize s = ackBytes.length + 1 := by rw [readSize, hst]; rfl
  rw [exec_frame_eq_receive (f := ackBytes) (rest := []) (by rw [hst]; rfl) rfl, receiveFrame_whole hsize, checkAnswer,
    latchRx_st, hst]
  rfl

/-! ### A built response in the data poll (R64, R74, R77) -/

/-- On an answer that passes checks (1) to (5), Decode-full's outcome is decided by CAP and by the payload checksum (R74). -/
theorem decodeFull_of_headChecks {r : List Byte} {ld ec : Byte} (cap : Byte) (hhead : headOk r = true)
    (hlcs : ((byteAt r 4).toNat + (byteAt r 5).toNat) % 256 = 0) (hld : byteAt r 4 = ld) (hroom : 2 ≤ ld.toNat)
    (htfi : byteAt r 6 = tfiD2H) (hcode : byteAt r 7 = ec) :
    decodeFull r ld ec cap =
      if cap.toNat < ld.toNat - 2 then .error .noSpace
      else if ((sum8 (tfiD2H :: ec :: (r.drop 8).take (ld.toNat - 2))).toNat +
          (byteAt r (8 + (ld.toNat - 2))).toNat) % 256 ≠ 0 then .badPayload (ld.toNat - 2)
      else .payload ((r.drop 8).take (ld.toNat - 2)) := by
  subst hld hcode
  simp [decodeFull, hhead, hlcs, Nat.not_lt.2 hroom, htfi]

/-- A built response frame passes every check of Decode-full but the one for CAP (R64, R77). -/
theorem decodeFull_frameBuild (sb ec cap : Byte) {p : List Byte} (hp : p.length ≤ 253) :
    decodeFull (sb :: frameBuild tfiD2H (ec :: p)) (BitVec.ofNat 8 (p.length + 2)) ec cap =
      if p.length ≤ cap.toNat then .payload p else .error .noSpace := by
  have hlen : (BitVec.ofNat 8 (p.length + 2)).toNat = p.length + 2 := ofNat8_toNat (by omega)
  have hpayload : ((sb :: frameBuild tfiD2H (ec :: p)).drop 8).take p.length = p := by
    rw [frameBuild_eq]
    exact List.take_left
  have hdcs : byteAt (sb :: frameBuild tfiD2H (ec :: p)) (8 + p.length) = neg8 (sum8 (tfiD2H :: ec :: p)) := by
    rw [show 8 + p.length = 6 + (ec :: p).length + 1 by rw [List.length_cons]; omega, byteAt_cons_succ,
      byteAt_frameBuild_dcs]
  have hlcs : ((byteAt (sb :: frameBuild tfiD2H (ec :: p)) 4).toNat +
      (byteAt (sb :: frameBuild tfiD2H (ec :: p)) 5).toNat) % 256 = 0 := by
    rw [byteAt_cons_succ, byteAt_cons_succ, byteAt_frameBuild_lcs]
    exact add_neg8_toNat _
  rw [decodeFull_of_headChecks cap (by rw [frameBuild_eq]; rfl) hlcs (by rw [frameBuild_eq]; rfl) (by omega)
    (by rw [frameBuild_eq]; rfl) (by rw [frameBuild_eq]; rfl), hlen, Nat.add_sub_cancel, hpayload, hdcs,
    if_neg (not_not.2 (add_neg8_toNat _))]
  by_cases hcap : p.length ≤ cap.toNat
  · rw [if_pos hcap, if_neg (by omega)]
  · rw [if_neg hcap, if_pos (by omega)]

/-- The payload that Decode-full finds goes to OUT[0] on, where no host write raced with the operation (R74, R88). -/
theorem checkData_of_payload {s : State} {r p : List Byte} (hraced : s.outRaced = false)
    (hdec : decodeFull r s.lenD (expectedCode s.lastCmd) s.cap = .payload p) :
    checkData s r = finish { s with out := outFill s.out 0 p } p.length := by
  rw [checkData, hdec, settleDecode, outStore_of_not_raced hraced]

/-- Settles O26: the frame fills the data poll's read, Decode-full finds its payload, and the payload goes to OUT[0] on. -/
theorem validResponseIsDelivered : Obligations.ValidResponseIsDelivered := by
  intro s len lcs tail p hst hraced hp hcap hlenD henc
  refine ⟨?_, fun j hj => ?_, fun j hj => ?_⟩
  · have hlenD' : s.lenD = BitVec.ofNat 8 (p.length + 2) := by rw [← hlenD, BitVec.ofNat_toNat, BitVec.setWidth_eq]
    have hlength : (encode (.dataD2H len lcs tail)).length = p.length + 9 := by
      rw [henc, frameBuild_length, List.length_cons]
    have hsize : readSize s = (encode (.dataD2H len lcs tail)).length + 1 := by rw [hlength, readSize, hst, hlenD]
    have hdec : decodeFull (byteAt s.rxBuf 0 :: encode (.dataD2H len lcs tail)) s.lenD (expectedCode s.lastCmd) s.cap =
        .payload p := by
      rw [henc, hlenD']
      exact (decodeFull_frameBuild _ _ _ hp).trans (if_pos hcap)
    rw [exec_frame_eq_receive (by rw [hst]; rfl) (decodeWire_dataD2H len lcs tail), receiveFrame_whole hsize,
      checkAnswer, latchRx_st, hst]
    dsimp only
    rw [checkData_of_payload (s := latchRx s _) hraced hdec]
    simp only [finish, respond, latchRx, overlay, List.length_cons, hlength]
  · rw [outRead_outFill, if_pos (by omega), Nat.sub_zero, byteAt]
    simp [hj]
  · rw [outRead_outFill, if_neg (by omega)]

end Sys2Proof.Machine
end

section
/-! PROOFS. The host port: who hands STATUS to the host, and who takes a request (R57, R94, R109). -/

namespace Sys2Proof.Machine

open Sys2Proof

theorem Accepts.responses {s t : State} {i : Instr} (h : Accepts s i t) : t.responses = s.responses := by
  cases h <;> rfl

theorem delayStep_keeps_hostPort (s : State) :
    (delayStep s).responses = s.responses ∧ (delayStep s).requests = s.requests := by
  obtain ⟨-, hd⟩ | ⟨-, hd⟩ | ⟨-, -, hd⟩ := delayStep_cases s <;> simp [hd]

/-- From RESPOND the block's only move is to hand STATUS over (R89, R109). -/
theorem BlockStep.from_respond {s t : State} (h : BlockStep s t) (hst : s.st = .respond) : t = takeResponse s := by
  have hnext := block_iff.2 h
  rw [block_respond hst] at hnext
  exact (Host.Outcome.next.inj hnext).symm

/-- Outside RESPOND the block's move hands nothing to the host (R57). -/
theorem BlockStep.responses {s t : State} (h : BlockStep s t) (hst : s.st ≠ .respond) :
    t.responses = s.responses := by
  cases h with
  | noRequest | refuse => rfl
  | accept _ _ _ hacc => exact hacc.responses
  | send => exact busWrite_responses s _
  | redeliver => exact busWrite_responses s _
  | poll | pollAgain => simp
  | delay => exact (delayStep_keeps_hostPort s).1
  | respond hresp => exact absurd hresp hst

/-- Outside IDLE the block's move leaves the host's requests waiting (R94). -/
theorem BlockStep.requests {s t : State} (h : BlockStep s t) (hst : s.st ≠ .idle) : t.requests = s.requests := by
  cases h with
  | noRequest hidle | accept hidle | refuse hidle => exact absurd hidle hst
  | send => exact busWrite_requests s _
  | redeliver => exact busWrite_requests s _
  | poll | pollAgain => simp
  | delay => exact (delayStep_keeps_hostPort s).2
  | respond => rfl

/-- A move of the block is no reset (R118). -/
theorem head_ne_reset_of_blockMoves {s : State} (h : blockMoves s = true) : s.schedule.head? ≠ some .reset := by
  unfold blockMoves at h
  split at h <;> simp_all

/-- Settles O38: by the agent that moves; the block's own move by whether it starts in RESPOND, in IDLE or elsewhere. -/
theorem oneResponseForEachRespond : Obligations.OneResponseForEachRespond := by
  refine ⟨fun s t hstep => ?_, fun s hst => ⟨fun hsch => ?_, fun rest hsch => ?_⟩⟩
  · cases step_iff.1 hstep with
    | block hmoves hb =>
      refine ⟨?_, fun hst _ _ => by rw [hb.from_respond hst]; rfl, ?_⟩
      · by_cases hst : s.st = .respond
        · rw [hb.from_respond hst]
          exact .inr ⟨hst, rfl, head_ne_reset_of_blockMoves hmoves, rfl⟩
        · exact .inl (hb.responses hst)
      · by_cases hst : s.st = .idle
        · obtain rfl | hreq := hb.from_idle hst
          · exact .inl rfl
          · exact .inr ⟨hst, hreq⟩
        · exact .inl (hb.requests hst)
    | wait | never => exact ⟨.inl rfl, fun hst _ hidle => absurd (hst.symm.trans hidle) nofun, .inl rfl⟩
    | reset _ hsch =>
      exact ⟨.inl (takeReset_responses _), fun _ hr => absurd (by rw [hsch]; rfl) hr, .inl (takeReset_requests _)⟩
    | hostWrite =>
      refine ⟨.inl (hostWriteOut_responses _ _ _), fun hst _ hidle => ?_, .inl (hostWriteOut_requests _ _ _)⟩
      rw [hostWriteOut_st, hst] at hidle
      cases hidle
  · exact (step_free hsch).trans (block_respond hst)
  · exact (step_block hsch).trans (block_respond (s := { s with schedule := rest }) hst)

end Sys2Proof.Machine
end

section
/-! PROOFS. The Frame Codec's two simpler parsers: FrameParse takes Encode back, and the length probe reads
the head alone (R73, R75, R76, R86). -/

namespace Sys2Proof.Machine

open Sys2Proof

/-! ### FrameParse (R75, R76) -/

/-- The bytes that DCS is taken of, and DCS, stand behind the head of a built frame (R59, R62). -/
theorem checked_bytes_of_frameBuild (t : Byte) (x : List Byte) :
    ((frameBuild t x).drop 5).take (x.length + 2) = t :: x ++ [neg8 (sum8 (t :: x))] := by
  have hcut : (frameBuild t x).drop 5 = (t :: x ++ [neg8 (sum8 (t :: x))]) ++ [0x00] := by
    rw [frameBuild_eq]
    simp
  rw [hcut]
  exact List.take_left' (by simp)

/-- FrameParse takes a built frame back to its direction byte and its data (R75). -/
theorem frameParse_frameBuild (t : Byte) {x : List Byte} (h : x.length ≤ 254) :
    frameParse (frameBuild t x) = .ok (t, x) := by
  have hlen := byteAt_frameBuild_len_toNat t h
  have hlcs : ((byteAt (frameBuild t x) 3).toNat + (byteAt (frameBuild t x) 4).toNat) % 256 = 0 := by
    rw [byteAt_frameBuild_lcs]
    exact add_neg8_toNat _
  have hhead : byteAt (frameBuild t x) 0 = 0x00 ∧ byteAt (frameBuild t x) 1 = 0x00 ∧ byteAt (frameBuild t x) 2 = 0xFF := by
    rw [frameBuild_eq]
    exact ⟨rfl, rfl, rfl⟩
  have hdir : byteAt (frameBuild t x) 5 = t := by
    rw [frameBuild_eq]
    rfl
  have hdata : ((frameBuild t x).drop 6).take x.length = x := by
    rw [frameBuild_eq]
    exact List.take_left
  have hsum := sum8_append_neg8 (t :: x)
  rw [← checked_bytes_of_frameBuild] at hsum
  rw [hlen] at hlcs
  simp [frameParse, hhead, hlen, hlcs, hdir, hdata, hsum]

/-- Settles O9: Encode builds a frame of `H ++ B`, which FrameParse takes back; LCS and DCS each negate what they cover. -/
theorem parseOfEncodeIsHeaderAndBody : Obligations.ParseOfEncodeIsHeaderAndBody := by
  intro header body h
  rw [← List.length_append] at h
  unfold encodeFrame
  refine ⟨frameParse_frameBuild tfiH2D h, ?_, ?_⟩
  · rw [byteAt_frameBuild_lcs]
    exact add_neg8_toNat _
  · rw [byteAt_frameBuild_len_toNat tfiH2D h, checked_bytes_of_frameBuild]
    exact sum8_append_neg8 (tfiH2D :: (header ++ body))

/-! ### DecodeLength (R73, R86) -/

theorem headOk_iff (r : List Byte) :
    headOk r = true ↔ byteAt r 1 = 0x00 ∧ byteAt r 2 = 0x00 ∧ byteAt r 3 = 0xFF := by
  simp [headOk, and_assoc]

/-- Settles O13: the head decides, and LEN is taken as it is. -/
theorem decodeLengthChecksTheHeadOnly : Obligations.DecodeLengthChecksTheHeadOnly := by
  intro r
  rw [← headOk_iff]
  exact ⟨fun h => if_pos h, fun h => if_neg h⟩

/-- In the length poll a frame with a good head gives LEN_D its LEN, and its first six bytes go to
RXBUF (R82, R86). -/
theorem receiveFrame_lenPoll {s : State} (hst : s.st = .rrLenPoll) (len lcs tfi : Byte) (tail : List Byte) :
    receiveFrame s (headBytes ++ [len, lcs, tfi] ++ tail) = { s with
      rxBuf := [byteAt s.rxBuf 0, 0x00, 0x00, 0xFF, len, lcs, tfi] ++ s.rxBuf.drop 7, lenD := len, st := .rrNack } := by
  have hsize : readSize s = 7 := by rw [readSize, hst]
  have hlong : ¬(headBytes ++ [len, lcs, tfi] ++ tail).length + 1 < 7 := by simp [headBytes]
  rw [receiveFrame, hsize, if_neg (by decide), if_neg hlong, checkAnswer, latchRx_st, hst]
  rfl

/-- Settles O25: either direction byte is one more frame that the length poll receives. -/
theorem probeTakesTheDeclaredLength : Obligations.ProbeTakesTheDeclaredLength := by
  intro s len lcs tail hst
  have hpoll : isPoll s.st = true := by rw [hst]; rfl
  rw [exec_frame_eq_receive hpoll (decodeWire_dataD2H len lcs tail),
    exec_frame_eq_receive hpoll (decodeWire_dataH2D len lcs tail)]
  exact ⟨congrArg _ (receiveFrame_lenPoll hst len lcs tfiD2H tail),
    congrArg _ (receiveFrame_lenPoll hst len lcs tfiH2D tail)⟩

end Sys2Proof.Machine
end

section
/-! PROOFS. Decode-full: its outcome by its head checks, by CAP and by the payload checksum, what one changed byte does to it,
and what the data poll makes of a rejected response (R74, R77, R78, R88, R107). -/

namespace Sys2Proof.Machine

open Sys2Proof

/-! ### The checks in R107's order (R74) -/

/-- Checks (1) to (5) of Decode-full (R74). -/
structure HeadChecks (r : List Byte) (ld ec : Byte) : Prop where
  head : headOk r = true
  lcs : ((byteAt r 4).toNat + (byteAt r 5).toNat) % 256 = 0
  len : byteAt r 4 = ld
  room : 2 ≤ ld.toNat
  tfi : byteAt r 6 = tfiD2H
  code : byteAt r 7 = ec

theorem headChecks_iff {r : List Byte} {ld ec : Byte} :
    HeadChecks r ld ec ↔
      (byteAt r 1 = 0x00 ∧ byteAt r 2 = 0x00 ∧ byteAt r 3 = 0xFF ∧
        ((byteAt r 4).toNat + (byteAt r 5).toNat) % 256 = 0 ∧ byteAt r 4 = ld ∧ 2 ≤ ld.toNat ∧ byteAt r 6 = 0xD5 ∧
        byteAt r 7 = ec) := by
  constructor
  · rintro ⟨hhead, hlcs, hlen, hroom, htfi, hcode⟩
    obtain ⟨h1, h2, h3⟩ := (headOk_iff r).1 hhead
    exact ⟨h1, h2, h3, hlcs, hlen, hroom, htfi, hcode⟩
  · rintro ⟨h1, h2, h3, hlcs, hlen, hroom, htfi, hcode⟩
    exact ⟨(headOk_iff r).2 ⟨h1, h2, h3⟩, hlcs, hlen, hroom, htfi, hcode⟩

/-- The exact total of the bytes of check (7), for a payload of `n` bytes: TFI, command code, payload, DCS (R74). -/
def checkedTotal (r : List Byte) (n : Nat) : Nat :=
  byteTotal (byteAt r 6 :: byteAt r 7 :: (r.drop 8).take n) + (byteAt r (8 + n)).toNat

theorem decodeFull_of_not_headChecks {r : List Byte} {ld ec : Byte} (cap : Byte) (h : ¬HeadChecks r ld ec) :
    decodeFull r ld ec cap = .error .invalidFrame := by
  unfold decodeFull
  dsimp only
  iterate 5
    split
    · rfl
  rename_i hhead hlcs hlen hroom hdir
  simp only [ne_eq, not_or, not_not] at hlcs hlen hdir
  obtain ⟨htfi, hcode⟩ := hdir
  exact absurd ⟨by simpa using hhead, hlcs, hlen, hlen ▸ Nat.le_of_not_lt hroom, htfi, hcode⟩ h

/-- Once checks (1) to (5) pass, CAP and then the payload checksum decide (R74). -/
theorem HeadChecks.decodeFull_eq {r : List Byte} {ld ec : Byte} (h : HeadChecks r ld ec) (cap : Byte) :
    decodeFull r ld ec cap =
      if cap.toNat < ld.toNat - 2 then .error .noSpace
      else if checkedTotal r (ld.toNat - 2) % 256 ≠ 0 then .badPayload (ld.toNat - 2)
      else .payload ((r.drop 8).take (ld.toNat - 2)) := by
  obtain ⟨hhead, hlcs, hlen, hroom, htfi, hcode⟩ := h
  rw [decodeFull_of_headChecks cap hhead hlcs hlen hroom htfi hcode, sum8_toNat, Nat.mod_add_mod, checkedTotal, htfi,
    hcode]

/-- Everything Decode-full can find, with the checks that decide for it (R74, R107). -/
theorem decodeFull_cases (r : List Byte) (ld ec cap : Byte) :
    (¬HeadChecks r ld ec ∧ decodeFull r ld ec cap = .error .invalidFrame) ∨
    (HeadChecks r ld ec ∧ cap.toNat < ld.toNat - 2 ∧ decodeFull r ld ec cap = .error .noSpace) ∨
    (HeadChecks r ld ec ∧ ld.toNat - 2 ≤ cap.toNat ∧ checkedTotal r (ld.toNat - 2) % 256 ≠ 0 ∧
      decodeFull r ld ec cap = .badPayload (ld.toNat - 2)) ∨
    (HeadChecks r ld ec ∧ ld.toNat - 2 ≤ cap.toNat ∧ checkedTotal r (ld.toNat - 2) % 256 = 0 ∧
      decodeFull r ld ec cap = .payload ((r.drop 8).take (ld.toNat - 2))) := by
  by_cases h : HeadChecks r ld ec
  · rw [h.decodeFull_eq cap]
    by_cases hcap : cap.toNat < ld.toNat - 2
    · exact .inr (.inl ⟨h, hcap, if_pos hcap⟩)
    · rw [if_neg hcap]
      by_cases hsum : checkedTotal r (ld.toNat - 2) % 256 = 0
      · exact .inr (.inr (.inr ⟨h, Nat.le_of_not_lt hcap, hsum, if_neg (not_not.2 hsum)⟩))
      · exact .inr (.inr (.inl ⟨h, Nat.le_of_not_lt hcap, hsum, if_pos hsum⟩))
  · exact .inl ⟨h, decodeFull_of_not_headChecks cap h⟩

section

variable {r : List Byte} {ld ec cap : Byte}

theorem decodeFull_eq_invalidFrame_iff : decodeFull r ld ec cap = .error .invalidFrame ↔ ¬HeadChecks r ld ec := by
  refine ⟨fun hdec => ?_, decodeFull_of_not_headChecks cap⟩
  obtain ⟨h, hd⟩ | ⟨-, -, hd⟩ | ⟨-, -, -, hd⟩ | ⟨-, -, -, hd⟩ := decodeFull_cases r ld ec cap <;>
    cases hd.symm.trans hdec
  exact h

theorem decodeFull_eq_noSpace_iff :
    decodeFull r ld ec cap = .error .noSpace ↔ HeadChecks r ld ec ∧ cap.toNat < ld.toNat - 2 := by
  refine ⟨fun hdec => ?_, fun ⟨h, hcap⟩ => (h.decodeFull_eq cap).trans (if_pos hcap)⟩
  obtain ⟨-, hd⟩ | ⟨h, hcap, hd⟩ | ⟨-, -, -, hd⟩ | ⟨-, -, -, hd⟩ := decodeFull_cases r ld ec cap <;>
    cases hd.symm.trans hdec
  exact ⟨h, hcap⟩

theorem decodeFull_eq_badPayload_iff {n : Nat} :
    decodeFull r ld ec cap = .badPayload n ↔
      HeadChecks r ld ec ∧ ld.toNat - 2 ≤ cap.toNat ∧ n = ld.toNat - 2 ∧ checkedTotal r n % 256 ≠ 0 := by
  constructor
  · intro hdec
    obtain ⟨-, hd⟩ | ⟨-, -, hd⟩ | ⟨h, hcap, hsum, hd⟩ | ⟨-, -, -, hd⟩ := decodeFull_cases r ld ec cap <;>
      cases hd.symm.trans hdec
    exact ⟨h, hcap, rfl, hsum⟩
  · rintro ⟨h, hcap, rfl, hsum⟩
    rw [h.decodeFull_eq cap, if_neg (Nat.not_lt.2 hcap), if_pos hsum]

theorem decodeFull_eq_payload_iff {p : List Byte} :
    decodeFull r ld ec cap = .payload p ↔
      HeadChecks r ld ec ∧ ld.toNat - 2 ≤ cap.toNat ∧ checkedTotal r (ld.toNat - 2) % 256 = 0 ∧
        p = (r.drop 8).take (ld.toNat - 2) := by
  constructor
  · intro hdec
    obtain ⟨-, hd⟩ | ⟨-, -, hd⟩ | ⟨-, -, -, hd⟩ | ⟨h, hcap, hsum, hd⟩ := decodeFull_cases r ld ec cap <;>
      cases hd.symm.trans hdec
    exact ⟨h, hcap, hsum, rfl⟩
  · rintro ⟨h, hcap, hsum, rfl⟩
    rw [h.decodeFull_eq cap, if_neg (Nat.not_lt.2 hcap), if_neg (not_not.2 hsum)]

end

/-- Settles O12: each outcome comes with exactly the checks that it answers for. -/
theorem decodeFullReportsTheFirstFailedCheck : Obligations.DecodeFullReportsTheFirstFailedCheck := fun _ _ _ _ =>
  ⟨decodeFull_eq_invalidFrame_iff.trans (not_congr headChecks_iff),
    decodeFull_eq_noSpace_iff.trans (and_congr_left' headChecks_iff),
    fun _ => decodeFull_eq_badPayload_iff.trans (and_congr_left' headChecks_iff)⟩

/-! ### DecodeFull succeeds on valid frames (R77) -/

section

variable {r : List Byte} {ld ec cap : Byte}

theorem byteAt_eq_getElem {l : List Byte} {k : Nat} (h : k < l.length) : byteAt l k = l[k] :=
  List.getD_eq_getElem l 0 h

theorem byteAt_drop (l : List Byte) (m k : Nat) : byteAt (l.drop m) k = byteAt l (m + k) := by
  simp [byteAt]

theorem byteAt_take {l : List Byte} {n k : Nat} (h : k < n) : byteAt (l.take n) k = byteAt l k := by
  simp [byteAt, h]

/-- The bytes of check (7) lie in one piece of the answer, from TFI to DCS (R67). -/
theorem byteTotal_checked {n : Nat} (h : 8 + n < r.length) :
    byteTotal ((r.drop 6).take (n + 3)) = checkedTotal r n := by
  have htfi : r.drop 6 = byteAt r 6 :: byteAt r 7 :: r.drop 8 := by
    rw [List.drop_eq_getElem_cons (show 6 < r.length by omega), List.drop_eq_getElem_cons (show 7 < r.length by omega),
      byteAt_eq_getElem, byteAt_eq_getElem]
  have hdcs : (r.drop 8).take (n + 1) = (r.drop 8).take n ++ [byteAt r (8 + n)] := by
    rw [← byteAt_drop, byteAt_eq_getElem (by rw [List.length_drop]; omega), List.take_append_getElem]
  rw [htfi, List.take_succ_cons, List.take_succ_cons, hdcs]
  simp only [byteTotal, byteTotal_append, checkedTotal]
  omega

/-- The sum of R77 is check (7)'s. -/
theorem sum8_checked_eq_zero_iff (hr : r.length = ld.toNat + 8) (hroom : 2 ≤ ld.toNat) :
    sum8 ((r.drop 6).take (ld.toNat + 1)) = 0 ↔ checkedTotal r (ld.toNat - 2) % 256 = 0 := by
  rw [sum8_eq_zero_iff, ← byteTotal_checked (by omega), show ld.toNat - 2 + 3 = ld.toNat + 1 by omega]

/-- R77: Decode-full succeeds exactly on the answers that pass every check. -/
theorem decodeFull_succeeds_iff (hr : r.length = ld.toNat + 8) :
    (∃ p, decodeFull r ld ec cap = .payload p) ↔
      HeadChecks r ld ec ∧ ld.toNat - 2 ≤ cap.toNat ∧ sum8 ((r.drop 6).take (ld.toNat + 1)) = 0 := by
  constructor
  · rintro ⟨p, hdec⟩
    obtain ⟨h, hcap, hsum, -⟩ := decodeFull_eq_payload_iff.1 hdec
    exact ⟨h, hcap, (sum8_checked_eq_zero_iff hr h.room).2 hsum⟩
  · rintro ⟨h, hcap, hsum⟩
    exact ⟨_, decodeFull_eq_payload_iff.2 ⟨h, hcap, (sum8_checked_eq_zero_iff hr h.room).1 hsum, rfl⟩⟩

/-- A stored payload stands in OUT, where no host write raced with the operation (R37, R74). -/
theorem outRead_outStore_of_not_raced {s : State} (hraced : s.outRaced = false) {p : List Byte} {k : Nat}
    (h : k < p.length) : outRead (outStore s p).out k = some (byteAt p k) := by
  rw [outStore_of_not_raced hraced, byteAt_eq_getElem h]
  simp [outRead_outFill, h]

end

/-- Settles O10: success is R77's condition, the payload is a piece of the answer, and a built frame passes every check but
the one for CAP. -/
theorem decodeFullSucceedsExactlyOnValidFrames : Obligations.DecodeFullSucceedsExactlyOnValidFrames := by
  refine ⟨fun r ld ec cap hr => ⟨?_, fun p hdec => ?_⟩, fun sb ec cap p hp => decodeFull_frameBuild sb ec cap hp⟩
  · rw [decodeFull_succeeds_iff hr, headChecks_iff]
    simp only [and_assoc]
  · obtain ⟨h, -, -, hp⟩ := decodeFull_eq_payload_iff.1 hdec
    have hroom := h.room
    have hlen : p.length = ld.toNat - 2 := by
      rw [hp, List.length_take, List.length_drop]
      omega
    have hbytes : ∀ j < ld.toNat - 2, byteAt p j = byteAt r (8 + j) := fun j hj => by
      rw [hp, byteAt_take hj, byteAt_drop]
    refine ⟨hlen, hbytes, fun s hraced => ?_⟩
    rw [hdec, ← hlen]
    refine ⟨rfl, fun j hj => ?_⟩
    rw [← hbytes j (hlen ▸ hj)]
    exact outRead_outStore_of_not_raced hraced hj

/-! ### One changed byte (R78) -/

section

variable {r : List Byte} {ld ec cap : Byte}

/-- The head checks fix R[1] to R[5]. -/
theorem HeadChecks.byteAt_eq {r' : List Byte} (h : HeadChecks r ld ec) (h' : HeadChecks r' ld ec) {k : Nat}
    (hk : 1 ≤ k) (hk' : k ≤ 5) : byteAt r' k = byteAt r k := by
  obtain ⟨h1, h2, h3⟩ := (headOk_iff r).1 h.head
  obtain ⟨h1', h2', h3'⟩ := (headOk_iff r').1 h'.head
  have hlen : byteAt r' 4 = byteAt r 4 := h'.len.trans h.len.symm
  obtain rfl | rfl | rfl | rfl | rfl : k = 1 ∨ k = 2 ∨ k = 3 ∨ k = 4 ∨ k = 5 := by omega
  · exact h1'.trans h1.symm
  · exact h2'.trans h2.symm
  · exact h3'.trans h3.symm
  · exact hlen
  · have hlcs := h.lcs
    have hlcs' := h'.lcs
    rw [hlen] at hlcs'
    bv_omega

theorem byteAt_set_same {l : List Byte} {k : Nat} (h : k < l.length) (v : Byte) : byteAt (l.set k v) k = v := by
  simp [byteAt, h]

theorem byteAt_set_other (l : List Byte) {j k : Nat} (h : k ≠ j) (v : Byte) : byteAt (l.set k v) j = byteAt l j := by
  simp [byteAt, h]

/-- A total with one byte replaced. -/
theorem byteTotal_set {l : List Byte} {k : Nat} (h : k < l.length) (v : Byte) :
    byteTotal (l.set k v) + (byteAt l k).toNat = byteTotal l + v.toNat := by
  induction l generalizing k with
  | nil => cases h
  | cons b bs ih =>
    cases k with
    | zero =>
      simp only [List.set_cons_zero, byteTotal, byteAt_cons_zero]
      omega
    | succ k =>
      have hbs := ih (Nat.lt_of_succ_lt_succ h)
      simp only [List.set_cons_succ, byteTotal, byteAt_cons_succ]
      omega

/-- A list whose sum is 0 and that still sums to 0 with one byte replaced has that byte unchanged. -/
theorem eq_byteAt_of_sum8_set {l : List Byte} {k : Nat} (h : k < l.length) {v : Byte} (hsum : sum8 l = 0)
    (hset : sum8 (l.set k v) = 0) : v = byteAt l k := by
  rw [sum8_eq_zero_iff] at hsum hset
  have htotal := byteTotal_set h v
  have hv := v.isLt
  have hb := (byteAt l k).isLt
  exact BitVec.eq_of_toNat_eq (by omega)

/-- If an answer still decodes with one of its frame bytes 0 to DCS replaced, that byte is unchanged (R78). -/
theorem eq_byteAt_of_decodeFull_set {p q : List Byte} {k : Nat} {v : Byte} (hr : r.length = ld.toNat + 8)
    (hdec : decodeFull r ld ec cap = .payload p) (hset : decodeFull (r.set k v) ld ec cap = .payload q) (hk : 1 ≤ k)
    (hk' : k ≤ ld.toNat + 6) : v = byteAt r k := by
  obtain ⟨h, -, hsum⟩ := (decodeFull_succeeds_iff hr).1 ⟨p, hdec⟩
  obtain ⟨h', -, hsum'⟩ := (decodeFull_succeeds_iff (by rwa [List.length_set])).1 ⟨q, hset⟩
  by_cases hhead : k ≤ 5
  · rw [← h.byteAt_eq h' hk hhead, byteAt_set_same (by omega)]
  · have hpos : k - 6 < ld.toNat + 1 := by omega
    rw [List.drop_set, if_neg (by omega), List.take_set] at hsum'
    have hv := eq_byteAt_of_sum8_set (by rw [List.length_take, List.length_drop]; omega) hsum hsum'
    rw [hv, byteAt_take hpos, byteAt_drop]
    congr 1
    omega

theorem HeadChecks.congr {r' : List Byte} (h : HeadChecks r ld ec)
    (hbytes : ∀ k, 1 ≤ k → k ≤ 7 → byteAt r' k = byteAt r k) : HeadChecks r' ld ec := by
  rw [headChecks_iff] at h ⊢
  simpa [hbytes] using h

/-- A success of Decode-full rests on R[1] to R[LD+6] alone (R78). -/
theorem decodeFull_payload_congr {r' p : List Byte} (hdec : decodeFull r ld ec cap = .payload p)
    (hlen : r'.length = r.length) (hbytes : ∀ k, 1 ≤ k → k ≤ ld.toNat + 6 → byteAt r' k = byteAt r k) :
    decodeFull r' ld ec cap = .payload p := by
  obtain ⟨h, hcap, hsum, hp⟩ := decodeFull_eq_payload_iff.1 hdec
  have hroom := h.room
  have hpayload : (r'.drop 8).take (ld.toNat - 2) = (r.drop 8).take (ld.toNat - 2) := by
    refine List.ext_getElem (by simp [hlen]) fun k hk hk' => ?_
    have hpos : k < ld.toNat - 2 := by
      rw [List.length_take] at hk
      omega
    rw [← byteAt_eq_getElem hk, ← byteAt_eq_getElem hk', byteAt_take hpos, byteAt_take hpos, byteAt_drop, byteAt_drop,
      hbytes _ (by omega) (by omega)]
  refine decodeFull_eq_payload_iff.2
    ⟨h.congr fun k hk hk' => hbytes k hk (by omega), hcap, ?_, hp.trans hpayload.symm⟩
  rw [checkedTotal, hpayload, hbytes 6 (by omega) (by omega), hbytes 7 (by omega) (by omega),
    hbytes _ (by omega) (by omega)]
  exact hsum

/-- The ready test sees of an answer its length and its status byte (R79, R80). -/
theorem ready_eq (mask : Byte) (n : Nat) (ok : Bool) (bytes : List Byte) :
    ready mask n ⟨ok, bytes⟩ = (ok && decide (n ≤ bytes.length) && statusReady mask (byteAt bytes 0)) := by
  cases bytes <;> rfl

end

/-- Settles O11: a changed byte up to DCS breaks success and leaves CAP's check alone; the POSTAMBLE and the status byte are
not read; the ready test looks at the masked bits. -/
theorem singleByteCorruptionIsDetected : Obligations.SingleByteCorruptionIsDetected := by
  intro r p ld ec cap hr hdec
  have hpos : 0 < r.length := by omega
  have hunread : ∀ (j : Nat) (v : Byte), j = 0 ∨ ld.toNat + 6 < j → decodeFull (r.set j v) ld ec cap = .payload p :=
    fun j v hj => decodeFull_payload_congr hdec List.length_set fun k _ _ => byteAt_set_other r (by omega) v
  refine ⟨fun k v hk hk' hv => ?_, fun v => hunread _ v (.inr (by omega)), fun v => hunread 0 v (.inl rfl),
    fun mask v hmask ok n => ?_, fun mask v hmask ok n => ?_⟩
  · obtain ⟨-, hd⟩ | ⟨-, hcap, -⟩ | ⟨-, -, -, hd⟩ | ⟨-, -, -, hd⟩ := decodeFull_cases (r.set k v) ld ec cap
    · exact .inl hd
    · obtain ⟨-, hcap', -⟩ := decodeFull_eq_payload_iff.1 hdec
      exact absurd hcap (Nat.not_lt.2 hcap')
    · exact .inr ⟨_, hd⟩
    · exact absurd (eq_byteAt_of_decodeFull_set hr hdec hd hk hk') hv
  · simp only [ready_eq, List.length_set, byteAt_set_same hpos, statusReady, hmask]
  · simp only [ready_eq, byteAt_set_same hpos, statusReady, hmask, bne_self_eq_false, Bool.and_false]

/-! ### A rejected response in the data poll (R74, R107, R108) -/

/-- A frame of at least the bytes that the data poll reads is given to Decode-full behind the status byte (R82, R88). -/
theorem receiveFrame_dataPoll {s : State} {f : List Byte} (hst : s.st = .rrDataPoll)
    (hlen : s.lenD.toNat + 7 ≤ f.length) :
    receiveFrame s f = checkData (latchRx s (byteAt s.rxBuf 0 :: f.take (s.lenD.toNat + 7)))
      (byteAt s.rxBuf 0 :: f.take (s.lenD.toNat + 7)) := by
  have hsize : readSize s = s.lenD.toNat + 7 + 1 := by rw [readSize, hst]
  rw [receiveFrame, hsize, if_neg (by omega), if_neg (by omega), checkAnswer, latchRx_st, hst, Nat.add_sub_cancel]

/-- Settles O27: the frame fills the data poll's read, and Decode-full's outcome says what happens to OUT. -/
theorem rejectedResponseLeavesOut : Obligations.RejectedResponseLeavesOut := by
  intro s len lcs tail hst htail f rx
  have hsize : (encode (.dataD2H len lcs tail)).length = tail.length + 6 := by simp [encode, headBytes]
  have hlong : s.lenD.toNat + 7 ≤ (encode (.dataD2H len lcs tail)).length := by omega
  have hflen : f.length = s.lenD.toNat + 7 := List.length_take_of_le hlong
  have hrx : overlay (byteAt s.rxBuf 0 :: f) s.rxBuf = rx := by
    rw [overlay, List.length_cons, hflen]
  have hexec : exec (.dataD2H len lcs tail) s = .next (settleDecode (latchRx s (byteAt s.rxBuf 0 :: f))
      (decodeFull (byteAt s.rxBuf 0 :: f) s.lenD (expectedCode s.lastCmd) s.cap)) := by
    rw [exec_frame_eq_receive (by rw [hst]; rfl) (decodeWire_dataD2H len lcs tail), receiveFrame_dataPoll hst hlong]
    rfl
  refine ⟨fun e hdec => ?_, fun n hdec => ⟨_, hexec, ?_⟩⟩
  · rw [hexec, hdec, ← hrx]
    rfl
  · rw [hdec]
    exact ⟨rfl, rfl, hrx, fun j hj => outRead_outUnspecified_below (latchRx s _) hj,
      fun j hj => outRead_outUnspecified_above (latchRx s _) hj⟩

end Sys2Proof.Machine
end

section
/-! PROOFS. The Handshake Driver's moves one step each: the frames WC_SEND and RR_NACK send, the frame a ready answer brings, the
ack poll's comparison, and a poll that is not ready with the delay behind it (R81 to R89). -/

namespace Sys2Proof.Machine

open Sys2Proof

/-! ### A transaction as a record (R41, R79) -/

theorem busWrite_eq (s : State) (f : List Byte) : busWrite s f = { s with
    traffic := .busWrite s.params.devAddr f :: s.traffic, answers := s.answers.tail,
    draws := s.draws + freeAnswersDrawn s.answers } :=
  dropAnswer_eq _

theorem busRead_eq (s : State) (n : Nat) : busRead s n = { s with
    traffic := .busRead s.params.devAddr n :: s.traffic, answers := s.answers.tail,
    draws := s.draws + freeAnswersDrawn s.answers } :=
  dropAnswer_eq _

/-! ### The frames the block sends (R84, R87) -/

theorem step_send {s : State} (hst : s.st = .wcSend) (hsch : s.schedule = []) :
    step s = .next (sendFrame s (txFrame s)) :=
  (step_free hsch).trans (block_send hst)

theorem step_nack {s : State} (hst : s.st = .rrNack) (hsch : s.schedule = []) : step s = .next (redeliver s) :=
  (step_free hsch).trans (block_nack hst)

theorem exec_dataH2D_of_send {s : State} (hst : s.st = .wcSend) (len lcs : Byte) (tail : List Byte) :
    exec (.dataH2D len lcs tail) s = .next (sendFrame s (encode (.dataH2D len lcs tail))) := by
  rw [exec, execDataH2D, onWire_named (by rw [hst]; rfl), if_pos hst]

theorem exec_nackFrame_of_nack {s : State} (hst : s.st = .rrNack) : exec .nackFrame s = .next (redeliver s) := by
  rw [exec, execNackFrame, onWire_named (by rw [hst]; rfl), if_pos hst]

/-- Settles O21: the step and exec are both SEND, of TXBUF's frame and of the frame's own bytes. -/
theorem commandFrameGoesOutInOneWrite : Obligations.CommandFrameGoesOutInOneWrite := by
  intro s hst
  refine ⟨fun hsch => ?_, fun len lcs tail => ?_⟩
  · rw [step_send hst hsch, sendFrame, busWrite_eq]
    rfl
  · rw [exec_dataH2D_of_send hst, sendFrame, busWrite_eq]
    rfl

/-- Settles O22: exec of NACK in RR_NACK is REDELIVER. -/
theorem redeliveryRequestGoesOut : Obligations.RedeliveryRequestGoesOut := by
  intro s hst
  rw [exec_nackFrame_of_nack hst, redeliver, busWrite_eq]

/-- Settles O33: in both states the step and exec are the same operation, on the same bytes. -/
theorem stepRunsTheFramesItSends : Obligations.StepRunsTheFramesItSends := by
  refine ⟨fun s len lcs tail extra hst hsch hdec => ?_, fun s hst hsch => ?_⟩
  · obtain ⟨henc, -⟩ := decodeWire_encode hdec
    rw [step_send hst hsch, exec_dataH2D_of_send hst, henc]
  · rw [step_nack hst hsch, exec_nackFrame_of_nack hst]

/-! ### A ready answer (R80, R81, R85) -/

theorem blockMove_poll {s : State} (hpoll : isPoll s.st = true) : blockMove s = fetchPoll s := by
  unfold blockMove
  cases hst : s.st <;> rw [hst] at hpoll <;> cases hpoll

/-- Settles O32: the poll's fetch finds the frame, with the status byte latched. -/
theorem stepRunsTheReceivedFrame : Obligations.StepRunsTheReceivedFrame := by
  intro s i extra hpoll hsch hready hdec
  have hfetch : fetchPoll s = .run i (latchRx (busRead s (readSize s)) [byteAt (nextAnswer s).bytes 0]) := by
    simp only [fetchPoll, if_pos hready, hdec]
  rw [step_free hsch, blockMove_poll hpoll, hfetch, busRead_eq]
  rfl

theorem step_pollReady {s : State} (hpoll : isPoll s.st = true) (hsch : s.schedule = [])
    (hready : pollReadyNow s = true) :
    step s = .next (checkAnswer (latchRx (busRead s (readSize s)) (pollBytes s)) (pollBytes s)) := by
  rw [step_free hsch, block_poll_eq hpoll, if_pos hready]

theorem checkAnswer_wcAckPoll {s : State} (hst : s.st = .wcAckPoll) (r : List Byte) :
    checkAnswer s r = checkAck s r := by
  rw [checkAnswer, hst]

/-- WAIT_ACK's check ends the operation; the comparison decides the STATUS alone (R85). -/
theorem checkAck_eq (s : State) (r : List Byte) :
    checkAck s r = respond s (if (r.drop 1).take 6 = ackBytes then 0 else ErrorKind.invalidAck.code) := by
  rw [checkAck]
  split <;> rfl

/-- Settles O24: the six bytes behind the status byte of the 7 that are read are the six of the answer. -/
theorem ackPollComparesSixBytes : Obligations.AckPollComparesSixBytes := by
  intro s hst hsch hready
  have hsize : readSize s = 7 := by rw [readSize, hst]
  have hbytes : pollBytes s = (nextAnswer s).bytes.take 7 := by rw [pollBytes, hsize]
  have hlen : ((nextAnswer s).bytes.take 7).length = 7 := List.length_take_of_le (ready_bytes hready)
  have hsix : (((nextAnswer s).bytes.take 7).drop 1).take 6 = ((nextAnswer s).bytes.drop 1).take 6 := by
    rw [List.drop_take, List.take_take]
    rfl
  rw [step_pollReady (by rw [hst]; rfl) hsch (by rw [pollReadyNow, hsize]; exact hready), hsize, hbytes,
    checkAnswer_wcAckPoll (by simpa using hst), checkAck_eq, hsix, busRead_eq]
  simp only [respond, latchRx, overlay, hlen]
  rfl

/-! ### A poll that is not ready, and its delay (R81, R83) -/

theorem step_pollAgain {s : State} (hpoll : isPoll s.st = true) (hsch : s.schedule = [])
    (hready : pollReadyNow s = false) : step s = .next (notReady (busRead s (readSize s))) := by
  rw [step_free hsch, block_poll_eq hpoll, hready]
  rfl

/-- A poll state's delay state is a delay state, belongs to the poll's phase and goes back to it (R89). -/
theorem delay_of_poll {s : State} (hpoll : isPoll s.st = true) :
    isDelay (delayOf s.st) = true ∧ pollOf (delayOf s.st) = s.st ∧ pollLimit (notReady s) = pollLimit s := by
  unfold pollLimit
  rw [notReady_st]
  cases hst : s.st <;> rw [hst] at hpoll <;> cases hpoll <;> exact ⟨rfl, rfl, rfl⟩

/-- The delay behind a failed poll: with a limit it counts the poll, and the limit's last poll raises TIMEOUT; otherwise the
block polls again (R81). -/
theorem delayStep_notReady {s : State} (hpoll : isPoll s.st = true) : delayStep (notReady s) =
    if pollLimit s = 0 then delay s
    else if s.attempt.toNat + 1 = pollLimit s then raise { delay s with attempt := countPoll s.attempt } .timeout
    else { delay s with attempt := countPoll s.attempt } := by
  obtain ⟨-, hback, hlim⟩ := delay_of_poll hpoll
  simp only [delayStep, hlim, notReady_st, hback]
  rfl

theorem step_delay_notReady {s : State} (hpoll : isPoll s.st = true) (hsch : s.schedule = []) :
    step (notReady s) = .next (delayStep (notReady s)) := by
  obtain ⟨hdelay, -⟩ := delay_of_poll hpoll
  exact (step_free (s := notReady s) hsch).trans (block_delay hdelay)

/-- Settles O34: the poll is the BusRead and the delay state, and the delay state's step is the delay behind a failed poll. -/
theorem notReadyPollIsDiscarded : Obligations.NotReadyPollIsDiscarded := by
  intro s hpoll hsch hready
  have hread := busRead_eq s (readSize s)
  have hpoll' : isPoll (busRead s (readSize s)).st = true := by rwa [busRead_st]
  have hpollStep := step_pollAgain hpoll hsch hready
  have hdelayStep := step_delay_notReady hpoll' (by rwa [busRead_schedule])
  rw [delayStep_notReady hpoll'] at hdelayStep
  rw [hread] at hpollStep hdelayStep
  exact ⟨hpollStep, hdelayStep⟩

end Sys2Proof.Machine
end

section
/-! PROOFS. Runs of a poll phase: how many steps, reads and delays its failed polls take, with a limit and without, and when
waits stand between the block's moves (R81, R91, R92, R131). -/

namespace Sys2Proof.Machine

open Sys2Proof

/-! ### Runs of several steps -/

theorem stepN_succ_of_step {s t : State} (h : step s = .next t) (k : Nat) : stepN (k + 1) s = stepN k t := by
  rw [stepN, h]

theorem step_of_stepN_succ {k : Nat} {s t : State} (h : stepN (k + 1) s = some t) :
    ∃ u, step s = .next u ∧ stepN k u = some t := by
  rw [stepN] at h
  split at h
  · exact ⟨_, ‹_›, h⟩
  · cases h

theorem stepN_trans {m n : Nat} {s t : State} (h : stepN m s = some t) : stepN (m + n) s = stepN n t := by
  induction m generalizing s with
  | zero =>
    cases h
    rw [Nat.zero_add]
  | succ m ih =>
    obtain ⟨u, hu, hrun⟩ := step_of_stepN_succ h
    rw [Nat.succ_add, stepN_succ_of_step hu, ih hrun]

/-- A run that ends in a named state starts in one. -/
theorem named_of_stepN {k : Nat} {s t : State} (h : stepN k s = some t) (hn : isNamed t.st = true) :
    isNamed s.st = true := by
  cases k with
  | zero =>
    cases h
    exact hn
  | succ k =>
    obtain ⟨u, hu, -⟩ := step_of_stepN_succ h
    exact named_of_step hu

/-! ### Moves of others between the block's (R20, R131) -/

/-- From a move that is never used up on, every step stays (R79, U10). -/
theorem stepN_never {s : State} {rest : List Move} (hn : isNamed s.st = true) (hsch : s.schedule = .never :: rest)
    (k : Nat) : stepN k s = some s := by
  induction k with
  | zero => rfl
  | succ k ih => rw [stepN_succ_of_step (step_never hn hsch), ih]

/-- Settles O56: the waits come first, and then the move that is never used up. -/
theorem unansweredRequestIsStuck : Obligations.UnansweredRequestIsStuck := by
  intro n k s rest hn hsch
  rw [stepN_trans (waitsChangeOnlyTheSchedule n s (.never :: rest) hn hsch)]
  exact stepN_never (s := { s with schedule := .never :: rest }) hn rfl k

theorem setSchedule_self {s : State} {moves : List Move} (h : s.schedule = moves) :
    { s with schedule := moves } = s :=
  congrArg (fun q => { s with schedule := q }) h.symm

/-- With the schedule used up a step leaves it so. -/
theorem step_free_schedule {s t : State} (hsch : s.schedule = []) (h : step s = .next t) : t.schedule = [] := by
  have hkeep := block_withSchedule s []
  rw [setSchedule_self hsch, ← step_free hsch, h] at hkeep
  injection hkeep with ht
  exact congrArg State.schedule ht

/-- A schedule of waits and of the block's moves comes to the run that the block's moves are with the schedule used up. -/
theorem stepN_scheduled {moves : List Move} (rest : List Move) (hmoves : onlyBlockAndWait moves = true) {s t : State}
    (hrun : stepN (moves.count .block) { s with schedule := [] } = some t) (hn : isNamed t.st = true) :
    stepN moves.length { s with schedule := moves ++ rest } = some { t with schedule := rest } := by
  induction moves generalizing s with
  | nil =>
    cases hrun
    rfl
  | cons m moves ih =>
    obtain ⟨hm, hmoves'⟩ : (m = .block ∨ m = .wait) ∧ onlyBlockAndWait moves = true := by
      simpa [onlyBlockAndWait] using hmoves
    obtain rfl | rfl := hm
    · rw [List.count_cons_self] at hrun
      obtain ⟨u, hu, hrun⟩ := step_of_stepN_succ hrun
      rw [← setSchedule_self (step_free_schedule rfl hu)] at hrun
      obtain ⟨hfree, -⟩ :=
        scheduledBlockMoveIsTheFreeMove { s with schedule := .block :: (moves ++ rest) } (moves ++ rest) rfl
      exact (stepN_succ_of_step (hfree u hu) _).trans (ih hmoves' hrun)
    · rw [List.count_cons_of_ne (by decide)] at hrun
      have hnamed : isNamed s.st = true := named_of_stepN (s := { s with schedule := [] }) hrun hn
      have hwait := step_wait (s := { s with schedule := .wait :: (moves ++ rest) }) hnamed rfl
      exact (stepN_succ_of_step hwait _).trans (ih hmoves' hrun)

/-! ### Failed polls (R81, R91) -/

/-- A poll that is not ready and its delay. -/
theorem stepN_failedPoll {s : State} (hpoll : isPoll s.st = true) (hsch : s.schedule = [])
    (hready : pollReadyNow s = false) :
    stepN 2 s = some (delayStep (notReady (busRead s (readSize s)))) := by
  rw [stepN_succ_of_step (step_pollAgain hpoll hsch hready)]
  exact stepN_succ_of_step
    (step_delay_notReady (s := busRead s (readSize s)) (by rwa [busRead_st]) (by rwa [busRead_schedule])) 0

/-- ATTEMPT after `k` failed polls in the phase of `s`: counted with a limit only (R25, R81). -/
def attemptAfter (s : State) (k : Nat) : Half :=
  if pollLimit s = 0 then s.attempt else BitVec.ofNat 16 (s.attempt.toNat + k)

/-- `s` after its next `k` scripted answers, none of them ready: what polling `k` times makes of it (R91). -/
def afterFailedPolls (s : State) (k : Nat) : State :=
  { s with
    attempt := attemptAfter s k, answers := s.answers.drop k,
    traffic := failedPolls s.params (readSize s) k ++ s.traffic }

theorem countPoll_ofNat (n : Nat) : countPoll (BitVec.ofNat 16 n) = BitVec.ofNat 16 (n + 1) := by
  apply BitVec.eq_of_toNat_eq
  simp only [countPoll, BitVec.toNat_ofNat]
  omega

theorem nextNotReady_succ {mask : Byte} {n k : Nat} {answers : List Answer}
    (h : nextNotReady mask n (k + 1) answers = true) :
    nextNotReady mask n k answers = true ∧ ∃ a, answers[k]? = some a ∧ ready mask n a = false := by
  simp only [nextNotReady, Bool.and_eq_true, decide_eq_true_eq] at h ⊢
  obtain ⟨hlen, hall⟩ := h
  rw [List.take_succ_eq_append_getElem hlen, List.all_append, Bool.and_eq_true] at hall
  obtain ⟨hbefore, hlast⟩ := hall
  exact ⟨⟨by omega, hbefore⟩, answers[k], List.getElem?_eq_getElem hlen, by simpa using hlast⟩

theorem nextAnswer_of_cons {s : State} {a : Answer} {rest : List Answer} (h : s.answers = a :: rest) :
    nextAnswer s = a := by
  rw [nextAnswer, h]

/-- A read whose answer is scripted draws no free one. -/
theorem busRead_of_cons {s : State} {a : Answer} {rest : List Answer} (h : s.answers = a :: rest) (n : Nat) :
    busRead s n = { s with traffic := .busRead s.params.devAddr n :: s.traffic, answers := rest } := by
  rw [busRead_eq, h]
  rfl

section
variable {s : State} {k : Nat} {a : Answer}

theorem afterFailedPolls_zero (s : State) : afterFailedPolls s 0 = s := by
  have hatt : attemptAfter s 0 = s.attempt := by
    unfold attemptAfter
    split
    · rfl
    · exact BitVec.ofNat_toNat 16 s.attempt
  rw [afterFailedPolls, hatt]
  rfl

theorem afterFailedPolls_answers (ha : s.answers[k]? = some a) :
    (afterFailedPolls s k).answers = a :: s.answers.drop (k + 1) := by
  obtain ⟨hk, rfl⟩ := List.getElem?_eq_some_iff.1 ha
  exact List.drop_eq_getElem_cons hk

/-- One more failed poll and its delay, before the delay counts it. -/
theorem delay_busRead_after (ha : s.answers[k]? = some a) :
    delay (busRead (afterFailedPolls s k) (readSize s)) =
      { afterFailedPolls s (k + 1) with attempt := attemptAfter s k } := by
  rw [busRead_of_cons (afterFailedPolls_answers ha)]
  rfl

/-- With a limit one more failed poll is counted (R81). -/
theorem countPoll_attemptAfter (hlim : pollLimit s ≠ 0) (k : Nat) :
    countPoll (attemptAfter s k) = attemptAfter s (k + 1) := by
  rw [attemptAfter, attemptAfter, if_neg hlim, if_neg hlim, countPoll_ofNat, Nat.add_assoc]

theorem attemptAfter_of_unlimited (hlim : pollLimit s = 0) (k : Nat) : attemptAfter s k = s.attempt :=
  if_pos hlim

/-- One more failed poll raises TIMEOUT when it is the limit's last, and otherwise is one more failed poll (R81). -/
theorem stepN_oneMoreFailedPoll (hpoll : isPoll s.st = true) (hsch : s.schedule = [])
    (hrun : stepN (2 * k) s = some (afterFailedPolls s k)) (ha : s.answers[k]? = some a)
    (hready : ready s.params.readyMask (readSize s) a = false) :
    stepN (2 * (k + 1)) s = some (
      if pollLimit s ≠ 0 ∧ (attemptAfter s k).toNat + 1 = pollLimit s then raise (afterFailedPolls s (k + 1)) .timeout
      else afterFailedPolls s (k + 1)) := by
  have hnot : pollReadyNow (afterFailedPolls s k) = false := by
    rw [pollReadyNow, nextAnswer_of_cons (afterFailedPolls_answers ha)]
    exact hready
  have hpoll' : isPoll (busRead (afterFailedPolls s k) (readSize s)).st = true := by rwa [busRead_st]
  have hlimit : pollLimit (busRead (afterFailedPolls s k) (readSize s)) = pollLimit s := by rw [busRead_eq]; rfl
  have hatt : (busRead (afterFailedPolls s k) (readSize s)).attempt = attemptAfter s k := busRead_attempt _ _
  rw [Nat.mul_succ, stepN_trans hrun, stepN_failedPoll (s := afterFailedPolls s k) hpoll hsch hnot]
  refine congrArg some ((delayStep_notReady hpoll').trans ?_)
  rw [hlimit, hatt, delay_busRead_after ha]
  by_cases hlim : pollLimit s = 0
  · rw [if_pos hlim, if_neg (fun h => h.1 hlim), attemptAfter_of_unlimited hlim k, afterFailedPolls,
      attemptAfter_of_unlimited hlim]
  · rw [if_neg hlim, countPoll_attemptAfter hlim]
    simp only [ne_eq, hlim, not_false_eq_true, true_and]
    rfl

/-- `k` failed polls below the limit, or any number without one, are `k` reads and `k` delays (R91, R92). -/
theorem stepN_failedPolls (hpoll : isPoll s.st = true) (hsch : s.schedule = [])
    (hlim : pollLimit s = 0 ∨ s.attempt.toNat + k < pollLimit s ∧ pollLimit s ≤ 65535)
    (hnot : nextNotReady s.params.readyMask (readSize s) k s.answers = true) :
    stepN (2 * k) s = some (afterFailedPolls s k) := by
  induction k with
  | zero => exact congrArg some (afterFailedPolls_zero s).symm
  | succ k ih =>
    obtain ⟨hbefore, a, ha, hready⟩ := nextNotReady_succ hnot
    rw [stepN_oneMoreFailedPoll hpoll hsch (ih (by omega) hbefore) ha hready, if_neg]
    rintro ⟨hne, hlast⟩
    rw [attemptAfter, if_neg hne, BitVec.toNat_ofNat] at hlast
    omega

/-- `s` after `k` failed polls and a last read, which brought `a` (R81, R91). -/
def answeredAfter (s : State) (k : Nat) (a : Answer) : State :=
  { s with
    attempt := attemptAfter s k, answers := s.answers.drop (k + 1),
    traffic := .busRead s.params.devAddr (readSize s) :: (failedPolls s.params (readSize s) k ++ s.traffic),
    rxBuf := overlay (a.bytes.take (readSize s)) s.rxBuf }

theorem stepN_answeredAfter (hpoll : isPoll s.st = true) (hsch : s.schedule = [])
    (hrun : stepN (2 * k) s = some (afterFailedPolls s k)) (ha : s.answers[k]? = some a)
    (hready : ready s.params.readyMask (readSize s) a = true) :
    stepN (2 * k + 1) s = some (checkAnswer (answeredAfter s k a) (a.bytes.take (readSize s))) := by
  have hnext := nextAnswer_of_cons (afterFailedPolls_answers ha)
  have hbytes : pollBytes (afterFailedPolls s k) = a.bytes.take (readSize s) := by rw [pollBytes, hnext]; rfl
  have hstep := step_pollReady (s := afterFailedPolls s k) hpoll hsch (by rw [pollReadyNow, hnext]; exact hready)
  rw [hbytes, busRead_of_cons (afterFailedPolls_answers ha)] at hstep
  rw [stepN_trans hrun]
  exact stepN_succ_of_step hstep 0

end

/-- Settles O48: the polls before the last one are below the limit, and the last one reaches it or is ready. -/
theorem pollPhaseIsBounded : Obligations.PollPhaseIsBounded := by
  intro s hpoll hsch hzero hlim hmax
  have hatt : ∀ k, attemptAfter s k = BitVec.ofNat 16 k := fun k => by
    rw [attemptAfter, if_neg hlim, hzero]
    exact congrArg _ (Nat.zero_add k)
  have hrun : ∀ k, k < pollLimit s → nextNotReady s.params.readyMask (readSize s) k s.answers = true →
      stepN (2 * k) s = some (afterFailedPolls s k) := fun k hk hnot =>
    stepN_failedPolls hpoll hsch (.inr ⟨by rw [hzero]; simpa using hk, hmax⟩) hnot
  refine ⟨fun hnot => ?_, fun k a hk hnot ha hready => ?_⟩
  · obtain ⟨m, hm⟩ := Nat.exists_eq_succ_of_ne_zero hlim
    rw [hm] at hnot
    obtain ⟨hbefore, a, ha, hready⟩ := nextNotReady_succ hnot
    have hlast : (attemptAfter s m).toNat + 1 = pollLimit s := by
      rw [hatt, BitVec.toNat_ofNat]
      omega
    have hend := stepN_oneMoreFailedPoll hpoll hsch (hrun m (by omega) hbefore) ha hready
    rw [if_pos ⟨hlim, hlast⟩, ← Nat.succ_eq_add_one, ← hm, afterFailedPolls, hatt] at hend
    exact hend
  · rw [stepN_answeredAfter hpoll hsch (hrun k hk hnot) ha hready, answeredAfter, hatt]

/-- What a poll makes of a ready answer is a named state (R19). -/
theorem named_checkAnswer {s : State} (hn : isNamed s.st = true) (r : List Byte) :
    isNamed (checkAnswer s r).st = true := by
  obtain ⟨-, hc⟩ | ⟨-, hc⟩ | ⟨-, hc⟩ | ⟨-, hc⟩ := checkAnswer_cases s r <;> rw [hc]
  · rw [checkAck_eq]
    rfl
  · obtain ⟨-, hl⟩ | ⟨-, hl⟩ := checkLength_cases s r <;> rw [hl] <;> rfl
  · rw [checkData, settleDecode_st]
    rfl
  · exact hn

/-- Settles O49: without a limit any number of failed polls only polls on, and waits between the moves change nothing. -/
theorem zeroTimeoutWaitsWithoutLimit : Obligations.ZeroTimeoutWaitsWithoutLimit := by
  intro s k hst htmo hnot waited taken
  have hpoll : isPoll s.st = true := by obtain h | h := hst <;> rw [h] <;> rfl
  have hnamed : isNamed s.st = true := by obtain h | h := hst <;> rw [h] <;> rfl
  have hlim : pollLimit s = 0 := by obtain h | h := hst <;> simp [pollLimit, h, htmo]
  have hwaited : afterFailedPolls s k = waited := by rw [afterFailedPolls, attemptAfter_of_unlimited hlim]
  have htaken (a : Answer) : checkAnswer (answeredAfter s k a) (a.bytes.take (readSize s)) = taken a := by
    rw [answeredAfter, attemptAfter_of_unlimited hlim]
  simp only [← hwaited, ← htaken]
  refine ⟨fun hsch => ?_, fun moves rest hsch hmoves => ?_⟩
  · have hrun := stepN_failedPolls hpoll hsch (.inl hlim) hnot
    exact ⟨hrun, fun a ha hready => stepN_answeredAfter hpoll hsch hrun ha hready⟩
  · have hrun := stepN_failedPolls (s := { s with schedule := [] }) hpoll rfl (.inl hlim) hnot
    have hscheduled {n : Nat} {t : State} (hcount : moves.count .block = n) (hn : isNamed t.st = true)
        (hfree : stepN n { s with schedule := [] } = some { t with schedule := [] }) :
        stepN moves.length s = some { t with schedule := rest } := by
      rw [← hcount] at hfree
      have h := stepN_scheduled rest hmoves hfree hn
      rwa [← hsch] at h
    refine ⟨fun hcount => hscheduled hcount (t := afterFailedPolls s k) hnamed hrun, fun a ha hready hcount => ?_⟩
    refine hscheduled hcount (named_checkAnswer (s := answeredAfter s k a) hnamed _) ?_
    rw [← checkAnswer_withSchedule]
    exact stepN_answeredAfter (s := { s with schedule := [] }) hpoll rfl hrun ha hready

end Sys2Proof.Machine
end

section
/-! PROOFS. The step table runs the phase rules: each poll loop of R81 is a run of poll and delay steps, and the phases of both
operations are such runs with single steps between them (R84 to R88, R99, R100). -/

namespace Sys2Proof.Machine

open Sys2Proof

/-- Some number of steps leads from `s` to `t`. -/
def Reaches (s t : State) : Prop := ∃ k, stepN k s = some t

theorem Reaches.of_step {s t : State} (h : step s = .next t) : Reaches s t := ⟨1, stepN_succ_of_step h 0⟩

theorem Reaches.trans {s t u : State} (hst : Reaches s t) (htu : Reaches t u) : Reaches s u := by
  obtain ⟨m, hm⟩ := hst
  obtain ⟨n, hn⟩ := htu
  exact ⟨m + n, (stepN_trans hm).trans hn⟩

/-! ### The phases do not look at ST, which the step table moves through its rows -/

theorem busRead_setSt (s : State) (n : Nat) (p : St) :
    busRead { s with st := p } n = { busRead s n with st := p } := by
  rw [busRead_eq, busRead_eq]

theorem busWrite_setSt (s : State) (f : List Byte) (p : St) :
    busWrite { s with st := p } f = { busWrite s f with st := p } := by
  rw [busWrite_eq, busWrite_eq]

/-- What the poll state `p` makes of a poll loop's result: a ready answer is checked, TIMEOUT is raised (R81, R89). -/
def pollEnd (p : St) (s : State) : Except ErrorKind (List Byte) → State
  | .ok r => checkAnswer { s with st := p } r
  | .error e => raise s e

theorem pollEnd_ackPoll (s : State) (r : List Byte) : pollEnd .wcAckPoll s (.ok r) =
    if (r.drop 1).take 6 ≠ ackBytes then raise s .invalidAck else finish s 0 := by
  rw [ite_not]
  rfl

theorem pollEnd_lenPoll_of_error {r : List Byte} {e : ErrorKind} (h : decodeLength r = .error e) (s : State) :
    pollEnd .rrLenPoll s (.ok r) = raise s e := by
  change checkLength { s with st := .rrLenPoll } r = _
  rw [checkLength, h]
  rfl

theorem pollEnd_lenPoll_of_ok {r : List Byte} {len : Byte} (h : decodeLength r = .ok len) (s : State) :
    pollEnd .rrLenPoll s (.ok r) = { s with lenD := len, st := .rrNack } := by
  change checkLength { s with st := .rrLenPoll } r = _
  rw [checkLength, h]

theorem pollEnd_dataPoll (s : State) (r : List Byte) : pollEnd .rrDataPoll s (.ok r) =
    settleDecode s (decodeFull r s.lenD (expectedCode s.lastCmd) s.cap) := by
  change settleDecode { s with st := .rrDataPoll } (decodeFull r s.lenD (expectedCode s.lastCmd) s.cap) = _
  cases decodeFull r s.lenD (expectedCode s.lastCmd) s.cap with
  | payload p =>
    simp only [settleDecode, outStore]
    split <;> rfl
  | badPayload n => rfl
  | error e => rfl

/-- A failed poll and its delay, from the poll state `p` (R81, R89). -/
theorem reaches_failedPoll {p : St} {s : State} (hpoll : isPoll p = true) (hsch : s.schedule = [])
    (hready : pollReadyNow { s with st := p } = false) : Reaches { s with st := p }
      (if pollLimit { s with st := p } = 0 then { delay (busRead s (readSize { s with st := p })) with st := p }
      else if s.attempt.toNat + 1 = pollLimit { s with st := p } then
        raise { delay (busRead s (readSize { s with st := p })) with attempt := countPoll s.attempt } .timeout
      else { delay (busRead s (readSize { s with st := p })) with attempt := countPoll s.attempt, st := p }) := by
  have hrun := stepN_failedPoll (s := { s with st := p }) hpoll hsch hready
  rw [delayStep_notReady (by rwa [busRead_st]), busRead_eq] at hrun
  rw [busRead_eq]
  exact ⟨2, hrun⟩

/-- A poll loop that ends is a run of polls and delays from its poll state, which ends with the loop's result (R81, R89). -/
theorem pollLoop_reaches {p : St} (hpoll : isPoll p = true) {fuel n m : Nat} {s t : State}
    {result : Except ErrorKind (List Byte)} (hsch : s.schedule = []) (hsize : readSize { s with st := p } = n)
    (hlimit : pollLimit { s with st := p } = m) (hloop : pollLoop fuel n m s = some (t, result)) :
    Reaches { s with st := p } (pollEnd p t result) := by
  induction fuel generalizing s with
  | zero => cases hloop
  | succ fuel ih =>
    rw [pollLoop] at hloop
    by_cases hready : ready s.params.readyMask n (nextAnswer s) = true
    · rw [if_pos hready] at hloop
      cases hloop
      have hstep := step_pollReady (s := { s with st := p }) hpoll hsch (by rw [pollReadyNow, hsize]; exact hready)
      rw [pollBytes, hsize, busRead_setSt] at hstep
      exact .of_step hstep
    · have hfail := reaches_failedPoll hpoll hsch (by rw [pollReadyNow, hsize]; exact (Bool.not_eq_true _).mp hready)
      rw [if_neg hready] at hloop
      rw [hsize, hlimit] at hfail
      simp only [delay_attempt, busRead_attempt] at hloop
      have hagain (a : Half) (hrest : pollLoop fuel n m { delay (busRead s n) with attempt := a } = some (t, result)) :
          Reaches { delay (busRead s n) with attempt := a, st := p } (pollEnd p t result) :=
        ih (by rwa [delay_schedule, busRead_schedule]) (by rw [busRead_eq]; exact hsize)
          (by rw [busRead_eq]; exact hlimit) hrest
      split_ifs at hloop hfail with hzero hlast
      · exact hfail.trans (hagain _ hloop)
      · cases hloop
        exact hfail
      · exact hfail.trans (hagain _ hloop)

/-- The same for `PollReady`, which starts with ATTEMPT = 0 (R81). -/
theorem pollReady_reaches {p : St} (hpoll : isPoll p = true) {fuel n m : Nat} {s t : State}
    {result : Except ErrorKind (List Byte)} (hsch : s.schedule = []) (hsize : readSize { s with st := p } = n)
    (hlimit : pollLimit { s with st := p } = m) (hready : pollReady fuel n m s = some (t, result)) :
    Reaches { s with attempt := 0, st := p } (pollEnd p t result) :=
  pollLoop_reaches (s := { s with attempt := 0 }) hpoll hsch hsize hlimit hready

/-- Settles O50: SEND is one step, and the ack wait's poll loop is a run that its result ends. -/
theorem writeCommandStepsFollowThePhases : Obligations.WriteCommandStepsFollowThePhases := by
  intro fuel s t hst hsch hphases
  refine (Reaches.of_step (step_send hst hsch)).trans ?_
  have hwait {u : State} {result : Except ErrorKind (List Byte)}
      (hready : pollReady fuel 7 s.params.ackMax (busWrite s (txFrame s)) = some (u, result)) :
      Reaches (sendFrame s (txFrame s)) (pollEnd .wcAckPoll u result) :=
    pollReady_reaches (p := .wcAckPoll) rfl (by rwa [busWrite_schedule]) rfl (by rw [busWrite_eq]; rfl) hready
  rw [writeCommandPhases] at hphases
  split at hphases
  · cases hphases
  · cases hphases
    exact hwait ‹_›
  · rename_i u r hready
    rw [← apply_ite some, ← pollEnd_ackPoll] at hphases
    cases hphases
    exact hwait hready

/-- A run of the block with the schedule used up leaves it so. -/
theorem Reaches.schedule_free {s t : State} (h : Reaches s t) (hsch : s.schedule = []) : t.schedule = [] := by
  obtain ⟨k, hk⟩ := h
  induction k generalizing s with
  | zero =>
    cases hk
    exact hsch
  | succ k ih =>
    obtain ⟨u, hu, hrun⟩ := step_of_stepN_succ hk
    exact ih (step_free_schedule hsch hu) hrun

/-- REDELIVER and the data wait, from RR_NACK: the last part of READ_RESPONSE's phases (R87, R88). -/
theorem dataPhases_reaches {fuel : Nat} {s u : State} {result : Except ErrorKind (List Byte)} (hsch : s.schedule = [])
    (hready : pollReady fuel (s.lenD.toNat + 8) s.tmo.toNat (busWrite s s.params.nack) = some (u, result)) :
    Reaches { s with st := .rrNack } (pollEnd .rrDataPoll u result) := by
  have hnack : step { s with st := .rrNack } =
      .next { busWrite s s.params.nack with attempt := 0, st := .rrDataPoll } := by
    rw [step_nack (s := { s with st := .rrNack }) rfl hsch, redeliver, busWrite_setSt]
  refine (Reaches.of_step hnack).trans (pollReady_reaches rfl (by rwa [busWrite_schedule]) ?_ ?_ hready)
  · rw [busWrite_eq]
    rfl
  · rw [busWrite_eq]
    rfl

/-- Settles O51: both waits are runs that their results end, with the redelivery request one step between them. -/
theorem readResponseStepsFollowThePhases : Obligations.ReadResponseStepsFollowThePhases := by
  intro fuel s t hst hatt hsch hphases
  have hstart : { s with attempt := 0, st := .rrLenPoll } = s := by rw [← hatt, ← hst]
  have hwait {u : State} {result : Except ErrorKind (List Byte)}
      (hready : pollReady fuel 7 s.tmo.toNat s = some (u, result)) : Reaches s (pollEnd .rrLenPoll u result) := by
    have h := pollReady_reaches (p := .rrLenPoll) rfl hsch rfl rfl hready
    rwa [hstart] at h
  rw [readResponsePhases] at hphases
  split at hphases
  · cases hphases
  · cases hphases
    exact hwait ‹_›
  · rename_i u r hready
    have hend := hwait hready
    have hsch' : u.schedule = [] := by
      have h := hend.schedule_free hsch
      rwa [pollEnd, checkAnswer_schedule] at h
    cases hlen : decodeLength r with
    | error e =>
      simp only [hlen] at hphases
      cases hphases
      exact pollEnd_lenPoll_of_error hlen u ▸ hend
    | ok len =>
      rw [pollEnd_lenPoll_of_ok hlen] at hend
      refine hend.trans ?_
      simp only [hlen, busWrite_lenD, busWrite_tmo] at hphases
      split at hphases <;> cases hphases
      · exact dataPhases_reaches (s := { u with lenD := len }) hsch' ‹_›
      · exact pollEnd_dataPoll _ _ ▸ dataPhases_reaches (s := { u with lenD := len }) hsch' ‹_›

end Sys2Proof.Machine
end

section
/-! PROOFS. A whole exchange: what the block makes of a request that the host presents for a host operation, of a poll that is
answered at once, of a whole WRITE_COMMAND and of a whole READ_RESPONSE (R90, R99, R100, R114). -/

namespace Sys2Proof.Machine

open Sys2Proof

/-! ### The request that a host presents (R53, R56) -/

/-- A descriptor put together from its four bytes has those bytes (R39, R53). -/
theorem descriptorBytes_of_bytes (b0 b1 b2 b3 : Byte) :
    descriptorBytes (b3 ++ b2 ++ b1 ++ b0) = [b0, b1, b2, b3] := by
  have h0 : (b3 ++ b2 ++ b1 ++ b0).extractLsb' 0 8 = b0 := BitVec.extractLsb'_append_eq_right
  have h1 : (b3 ++ b2 ++ b1 ++ b0).extractLsb' 8 8 = b1 :=
    (BitVec.extractLsb'_append_eq_of_le (by decide)).trans BitVec.extractLsb'_append_eq_right
  have h2 : (b3 ++ b2 ++ b1 ++ b0).extractLsb' 16 8 = b2 :=
    (BitVec.extractLsb'_append_eq_of_le (by decide)).trans
      ((BitVec.extractLsb'_append_eq_of_le (by decide)).trans BitVec.extractLsb'_append_eq_right)
  have h3 : (b3 ++ b2 ++ b1 ++ b0).extractLsb' 24 8 = b3 :=
    (BitVec.extractLsb'_append_eq_of_le (by decide)).trans
      ((BitVec.extractLsb'_append_eq_of_le (by decide)).trans BitVec.extractLsb'_append_eq_left)
  exact congrArg₂ _ h0 (congrArg₂ _ h1 (congrArg₂ _ h2 (congrArg₂ _ h3 rfl)))

theorem descriptorBytes_requestOf (i : Instr) : descriptorBytes (requestOf i).desc =
    [byteAt (encode i) 0, byteAt (encode i) 1, byteAt (encode i) 2, byteAt (encode i) 3] :=
  descriptorBytes_of_bytes _ _ _ _

/-- A well-formed host operation is presented with all the data that its descriptor announces (R56). -/
theorem missingData_requestOf {i : Instr} (hwf : i.wellFormed = true) (hi : i.port = .host) :
    missingData (requestOf i) = 0 := by
  have hfields := descriptorBytes_requestOf i
  simp only [descriptorBytes, List.cons.injEq] at hfields
  obtain ⟨hop, hhlen, hblen, -⟩ := hfields
  rw [missingData, dataLength, hop, hhlen, hblen]
  cases i with
  | beginOp | wakeup | readResponse => exact Nat.zero_sub _
  | writeCommand header body =>
    simp only [Instr.wellFormed, Bool.and_eq_true, decide_eq_true_eq] at hwf
    obtain ⟨hh, hb⟩ := hwf
    have hdata : (requestOf (.writeCommand header body)).data = header ++ body := rfl
    rw [hdata, List.length_append]
    exact (congrArg (· - _) (congrArg₂ _ (ofNat8_toNat hh) (ofNat8_toNat hb))).trans (Nat.sub_self _)
  | ackFrame | nackFrame | dataH2D _ _ _ | dataD2H _ _ _ => cases hi

theorem requestBytes_requestOf {i : Instr} (hwf : i.wellFormed = true) (hi : i.port = .host) (d : Nat) :
    requestBytes d (requestOf i) = encode i := by
  rw [requestBytes, missingData_requestOf hwf hi, descriptorBytes_requestOf]
  cases i with
  | beginOp | wakeup | readResponse => rfl
  | writeCommand header body => exact List.append_nil _
  | ackFrame | nackFrame | dataH2D _ _ _ | dataD2H _ _ _ => cases hi

/-- An IDLE block accepts the request that stands for a well-formed host operation (R94). -/
theorem step_acceptRequest {s t : State} {i : Instr} {rest : List Request} (hwf : i.wellFormed = true)
    (hi : i.port = .host) (hst : s.st = .idle) (hsch : s.schedule = []) (hreq : s.requests = requestOf i :: rest)
    (hacc : Accepts { s with requests := rest } i t) : step s = .next t := by
  have hdec : decodeHost (requestBytes s.draws (requestOf i)) = .ok i [] := by
    have h := decodeOfEncodeIsTheInstruction i hwf
    rw [hi] at h
    rw [requestBytes_requestOf hwf hi]
    exact h
  have htake : takeRequest s (requestOf i) rest = { s with requests := rest } := by
    rw [takeRequest, missingData_requestOf hwf hi]
    rfl
  exact (step_free hsch).trans (block_iff.2 (.accept hst hreq hdec (htake ▸ hacc)))

/-! ### A poll that is answered at once (R80, R81) -/

/-- A good answer of exactly the bytes read, with a ready status byte, is checked whole. -/
theorem step_promptPoll {s : State} {sb : Byte} {f : List Byte} {more : List Answer} (hpoll : isPoll s.st = true)
    (hsch : s.schedule = []) (hans : s.answers = ⟨true, sb :: f⟩ :: more) (hsize : readSize s = f.length + 1)
    (hsb : statusReady s.params.readyMask sb = true) :
    step s = .next (checkAnswer (latchRx (busRead s (f.length + 1)) (sb :: f)) (sb :: f)) := by
  have hnext := nextAnswer_of_cons hans
  have hready : pollReadyNow s = true := by
    rw [pollReadyNow, hnext, hsize]
    simp [ready, hsb]
  have hbytes : pollBytes s = sb :: f := by
    rw [pollBytes, hnext, hsize]
    exact List.take_length (l := sb :: f)
  rw [step_pollReady hpoll hsch hready, hbytes, hsize]

/-! ### A whole WRITE_COMMAND (R99) -/

theorem step_respond {s : State} (hst : s.st = .respond) (hsch : s.schedule = []) :
    step s = .next (takeResponse s) :=
  (step_free hsch).trans (block_respond hst)

/-- `s` of WC_SEND after SEND of the frame `f` and an ack poll that is acknowledged at once (R84, R85). -/
def acknowledged (s : State) (f : List Byte) (sb : Byte) : State :=
  finish (latchRx (busRead (sendFrame s f) 7) (sb :: ackBytes)) 0

theorem stepN_acknowledged {s : State} {f : List Byte} {sb : Byte} {a : Answer} {more : List Answer}
    (hst : s.st = .wcSend) (hsch : s.schedule = []) (hframe : txFrame s = f)
    (hsb : statusReady s.params.readyMask sb = true) (hans : s.answers = a :: ⟨true, sb :: ackBytes⟩ :: more) :
    stepN 3 s = some (takeResponse (acknowledged s f sb)) := by
  have hsend := step_send hst hsch
  rw [hframe] at hsend
  have hpoll : step (sendFrame s f) = .next (acknowledged s f sb) := by
    rw [step_promptPoll (s := sendFrame s f) (sb := sb) (f := ackBytes) (more := more) rfl
      (by simp [sendFrame, hsch]) (by simp [sendFrame, hans]) rfl (by simpa using hsb),
      checkAnswer_wcAckPoll (by simp [sendFrame])]
    rfl
  have htake := step_respond (s := acknowledged s f sb) rfl (by simp [acknowledged, sendFrame, hsch])
  rw [stepN_succ_of_step hsend, stepN_succ_of_step hpoll, stepN_succ_of_step htake]
  rfl

/-- What a whole WRITE_COMMAND, acknowledged at once, makes of `s` (R90, R98, R99). -/
structure CommandRun (s t : State) (header body : List Byte) : Prop where
  st : t.st = .idle
  schedule : t.schedule = []
  requests : t.requests = s.requests.tail
  answers : t.answers = s.answers.tail.tail
  params : t.params = s.params
  out : t.out = s.out
  lastCmd : t.lastCmd = byteAt header 0
  lastCmdValid : t.lastCmdValid = true
  responses : t.responses = 0 :: s.responses
  traffic : t.traffic = .busRead s.params.devAddr 7 :: .busWrite s.params.devAddr (encodeFrame header body) :: s.traffic

theorem writeCommand_run {s : State} {header body : List Byte} {rest : List Request} {sb : Byte} {a : Answer}
    {more : List Answer} (hst : s.st = .idle) (hsch : s.schedule = []) (hheader : 1 ≤ header.length)
    (hsize : header.length + body.length ≤ 254) (hsb : statusReady s.params.readyMask sb = true)
    (hreq : s.requests = requestOf (.writeCommand header body) :: rest)
    (hans : s.answers = a :: ⟨true, sb :: ackBytes⟩ :: more) :
    ∃ t, stepN 4 s = some t ∧ CommandRun s t header body := by
  have hwf : (Instr.writeCommand header body).wellFormed = true := by
    simp only [Instr.wellFormed, Bool.and_eq_true, decide_eq_true_eq]
    omega
  have haccept := step_acceptRequest hwf rfl hst hsch hreq (.command (by omega))
  have hlen : (encodeFrame header body).length < 512 := by rw [encodeFrame_length]; omega
  refine ⟨_, (stepN_succ_of_step haccept 3).trans (stepN_acknowledged rfl hsch (txFrame_latchTx hlen) hsb hans), ?_⟩
  constructor <;> simp [acknowledged, sendFrame, hsch, hreq]

/-! ### A whole READ_RESPONSE (R100) -/

/-- The length probe's read of a built frame: its head is good and its LEN is the data's length and one (R59, R73). -/
theorem checkLength_frameBuild {s : State} (sb t : Byte) (x : List Byte) :
    checkLength s (sb :: (frameBuild t x).take 6) =
      { s with lenD := BitVec.ofNat 8 (x.length + 1), st := .rrNack } := by
  rw [frameBuild_eq]
  rfl

/-- `s` of RR_LEN_POLL after a length probe that is answered at once with the head of a built frame, and REDELIVER
(R86, R87). -/
def redelivered (s : State) (sb t : Byte) (x : List Byte) : State :=
  redeliver { latchRx (busRead s 7) (sb :: (frameBuild t x).take 6) with
    lenD := BitVec.ofNat 8 (x.length + 1), st := .rrNack }

theorem stepN_redelivered {s : State} {sb t : Byte} {x : List Byte} {more : List Answer} (hst : s.st = .rrLenPoll)
    (hsch : s.schedule = []) (hsb : statusReady s.params.readyMask sb = true)
    (hans : s.answers = ⟨true, sb :: (frameBuild t x).take 6⟩ :: more) :
    stepN 2 s = some (redelivered s sb t x) := by
  have hsix : ((frameBuild t x).take 6).length = 6 := by rw [frameBuild_eq]; rfl
  have hprobe := step_promptPoll (by rw [hst]; rfl) hsch hans (by rw [hsix, readSize, hst]) hsb
  rw [hsix, checkAnswer, latchRx_st, busRead_st, hst] at hprobe
  rw [stepN_succ_of_step hprobe]
  refine stepN_succ_of_step ?_ 0
  rw [checkLength_frameBuild, redelivered]
  exact step_nack rfl (by simpa using hsch)

/-- `s` of RR_DATA_POLL with the answer to its poll read and latched, where it is the frame `f` at once (R88). -/
def dataRead (s : State) (sb : Byte) (f : List Byte) : State :=
  latchRx (busRead s (f.length + 1)) (sb :: f)

theorem stepN_dataRead {s : State} {sb : Byte} {f : List Byte} {more : List Answer} (hst : s.st = .rrDataPoll)
    (hsch : s.schedule = []) (hsb : statusReady s.params.readyMask sb = true)
    (hans : s.answers = ⟨true, sb :: f⟩ :: more) (hlen : s.lenD.toNat + 7 = f.length) :
    stepN 2 s = some (takeResponse (checkData (dataRead s sb f) (sb :: f))) := by
  have hread := step_promptPoll (by rw [hst]; rfl) hsch hans (by rw [readSize, hst, ← hlen]) hsb
  rw [checkAnswer, latchRx_st, busRead_st, hst] at hread
  rw [stepN_succ_of_step hread]
  refine stepN_succ_of_step (step_respond (settleDecode_st _ _) ?_) 0
  simpa [checkData] using hsch

/-- What a whole READ_RESPONSE with operand CAP = `cap` makes of `s` up to its check of the response, a frame with LEN = `n`,
where each poll is answered at once (R86 to R88, R100). -/
structure ResponseRead (s u : State) (cap : Byte) (n : Nat) : Prop where
  lenD : u.lenD = BitVec.ofNat 8 n
  cap : u.cap = cap
  lastCmd : u.lastCmd = s.lastCmd
  outRaced : u.outRaced = false
  out : u.out = s.out
  responses : u.responses = s.responses
  traffic : u.traffic = .busRead s.params.devAddr (n + 8) :: .busWrite s.params.devAddr s.params.nack ::
    .busRead s.params.devAddr 7 :: s.traffic

theorem readResponse_run {s : State} {cap : Byte} {tmo : Half} {rest : List Request} {sb t : Byte} {x : List Byte}
    {b : Answer} {more : List Answer} (hst : s.st = .idle) (hsch : s.schedule = []) (hvalid : s.lastCmdValid = true)
    (hx : x.length ≤ 254) (hsb : statusReady s.params.readyMask sb = true)
    (hreq : s.requests = requestOf (.readResponse cap tmo) :: rest)
    (hans : s.answers = ⟨true, sb :: (frameBuild t x).take 6⟩ :: b :: ⟨true, sb :: frameBuild t x⟩ :: more) :
    ∃ u, stepN 5 s = some (takeResponse (checkData u (sb :: frameBuild t x))) ∧
      ResponseRead s u cap (x.length + 1) := by
  have haccept := step_acceptRequest rfl rfl hst hsch hreq (.response (tmo := tmo) hvalid)
  have hprobe := (stepN_succ_of_step haccept 2).trans (stepN_redelivered rfl hsch hsb hans)
  refine ⟨_, (stepN_trans hprobe).trans
    (stepN_dataRead (sb := sb) (f := frameBuild t x) (more := more) rfl ?_ ?_ ?_ ?_), ?_⟩
  · simpa [redelivered, redeliver] using hsch
  · simpa [redelivered, redeliver] using hsb
  · simp [redelivered, redeliver, hans]
  · simp [redelivered, redeliver]
    omega
  · constructor <;> simp [dataRead, redelivered, redeliver]

/-- Settles O52: four steps of WRITE_COMMAND, then five of READ_RESPONSE, whose built frame passes every check. -/
theorem wholeExchangeDeliversThePayload : Obligations.WholeExchangeDeliversThePayload := by
  intro s header body payload cap tmo sb a b hst hsch hheader hsize hpayload hcap hsb hreq f hans
  obtain ⟨t, hrun, ht⟩ := writeCommand_run hst hsch hheader hsize hsb hreq hans
  have htans : t.answers = [⟨true, sb :: f.take 6⟩, b, ⟨true, sb :: f⟩] := by rw [ht.answers, hans]; rfl
  obtain ⟨u, hrun', hu⟩ := readResponse_run (rest := []) ht.st ht.schedule ht.lastCmdValid
    (by rw [List.length_cons]; omega) (by rwa [ht.params]) (by rw [ht.requests, hreq]; rfl) htans
  have hdec : decodeFull (sb :: f) u.lenD (expectedCode u.lastCmd) u.cap = .payload payload := by
    rw [hu.lenD, hu.lastCmd, ht.lastCmd, hu.cap]
    exact (decodeFull_frameBuild sb _ cap hpayload).trans (if_pos hcap)
  rw [checkData, hdec, settleDecode] at hrun'
  refine ⟨_, (stepN_trans hrun).trans hrun', rfl, ?_, ?_, fun j hj => ?_, fun j hj => ?_, ?_⟩
  · simp [hu.lastCmd, ht.lastCmd]
  · simp [hu.responses, ht.responses]
  · exact outRead_outStore_of_not_raced hu.outRaced hj
  · rw [← ht.out, ← hu.out]
    exact outRead_outStore_above u hj
  · simp [hu.traffic, ht.traffic, ht.params]

end Sys2Proof.Machine
end

section
/-! PROOFS. Acceptance of a host operation: a busy block keeps its request waiting, an IDLE block answers each operation
with the state that its rule gives and leaves the rest, and a response is validated against the latest command (R94 to R102,
R122). -/

namespace Sys2Proof.Machine

open Sys2Proof

/-! ### A busy block (R94, R122) -/

/-- The meaning of a host operation is an acceptance (R94). -/
theorem exec_host_eq_accept {i : Instr} (hi : i.port = .host) :
    ∃ op k, ∀ s, exec i s = accept s op k := by
  cases i with
  | beginOp => exact ⟨_, _, fun s => by rw [exec, execBegin]⟩
  | wakeup => exact ⟨_, _, fun s => by rw [exec, execWakeup]⟩
  | writeCommand header body => exact ⟨_, _, fun s => by rw [exec, execWriteCommand]⟩
  | readResponse cap tmo => exact ⟨_, _, fun s => by rw [exec, execReadResponse]⟩
  | ackFrame | nackFrame | dataH2D _ _ _ | dataD2H _ _ _ => cases hi

theorem exec_host_busy {i : Instr} {s : State} (hi : i.port = .host) (hst : s.st ≠ .idle) (hn : isNamed s.st = true) :
    exec i s = .next s := by
  obtain ⟨op, k, hexec⟩ := exec_host_eq_accept hi
  rw [hexec, accept_busy hst hn]

/-- Everything a host operation can do: an IDLE block accepts it, a busy one keeps it waiting. -/
theorem exec_host_cases {i : Instr} {s t : State} (hi : i.port = .host) (h : exec i s = .next t) :
    (s.st = .idle ∧ Accepts s i t) ∨ (s.st ≠ .idle ∧ isNamed s.st = true ∧ t = s) := by
  obtain ⟨op, k, hexec⟩ := exec_host_eq_accept hi
  exact (accept_cases ((hexec s).symm.trans h)).imp_left fun ⟨hst, _⟩ => ⟨hst, (exec_idle_iff hst hi).1 h⟩

/-- Settles O20: exec by acceptance; a step by the agent that moves. -/
theorem busyBlockKeepsRequestsWaiting : Obligations.BusyBlockKeepsRequestsWaiting := by
  refine ⟨fun s i hi hst hn => exec_host_busy hi hst hn, fun s t hstep hst => ?_⟩
  cases step_iff.1 hstep with
  | block _ hb => exact hb.requests hst
  | wait | never => rfl
  | reset => exact takeReset_requests _
  | hostWrite => exact hostWriteOut_requests _ _ _

/-! ### What acceptance answers (R95 to R101) -/

/-- Settles O14: by the row of each operation. -/
theorem beginAndWakeupOnlyFinish : Obligations.BeginAndWakeupOnlyFinish := fun _ hst =>
  ⟨(exec_idle_iff hst rfl).2 .beginOp, (exec_idle_iff hst rfl).2 .wakeup⟩

/-- Settles O15: the command's row, where the frame's length is the data's and 8. -/
theorem writeCommandBuildsTheFrame : Obligations.WriteCommandBuildsTheFrame := by
  intro s header body hst hheader hsize
  rw [← encodeFrame_length header body]
  exact (exec_idle_iff hst rfl).2 (.command (by omega))

/-- Settles O16: by the row of a refused size. -/
theorem writeCommandSizesAreChecked : Obligations.WriteCommandSizesAreChecked := fun _ _ _ hst hsize =>
  (exec_idle_iff hst rfl).2 (.refusedSize hsize)

/-- Settles O17: by the row of READ_RESPONSE. -/
theorem readResponseStartsTheLengthWait : Obligations.ReadResponseStartsTheLengthWait := fun _ _ _ hst hvalid =>
  (exec_idle_iff hst rfl).2 (.response hvalid)

/-- Settles O18: the block accepts, and LAST_CMD_VALID decides. -/
theorem readResponseNeedsACommand : Obligations.ReadResponseNeedsACommand := by
  intro s cap tmo hst hvalid
  rw [exec, execReadResponse, accept_idle hst]
  exact if_neg (by rw [hvalid]; nofun)

/-! ### What acceptance leaves alone (R22, R24, R94 to R100) -/

theorem Accepts.keeps_rest {s t : State} {i : Instr} (h : Accepts s i t) :
    t.lenD = s.lenD ∧ t.rxBuf = s.rxBuf ∧ t.params = s.params ∧ t.requests = s.requests ∧ t.answers = s.answers ∧
      t.schedule = s.schedule ∧ t.traffic = s.traffic ∧ t.responses = s.responses ∧ t.draws = s.draws := by
  cases h <;> exact ⟨rfl, rfl, rfl, rfl, rfl, rfl, rfl, rfl, rfl⟩

/-- Only WRITE_COMMAND writes HLEN, BLEN, LAST_CMD and TXBUF (R22, R24, R28). -/
theorem Accepts.keeps_command {s t : State} {i : Instr} (h : Accepts s i t) (hi : ∀ h b, i ≠ .writeCommand h b) :
    t.hlen = s.hlen ∧ t.blen = s.blen ∧ t.lastCmd = s.lastCmd ∧ t.lastCmdValid = s.lastCmdValid ∧
      t.txBuf = s.txBuf ∧ t.txLen = s.txLen := by
  cases h with
  | beginOp | wakeup | response => exact ⟨rfl, rfl, rfl, rfl, rfl, rfl⟩
  | refusedSize | command => exact absurd rfl (hi _ _)

/-- Only READ_RESPONSE writes CAP, TMO and ATTEMPT (R24, R25). -/
theorem Accepts.keeps_operands {s t : State} {i : Instr} (h : Accepts s i t) (hi : ∀ c m, i ≠ .readResponse c m) :
    t.cap = s.cap ∧ t.tmo = s.tmo ∧ t.attempt = s.attempt ∧ t.outRaced = s.outRaced := by
  cases h with
  | beginOp | wakeup | refusedSize | command => exact ⟨rfl, rfl, rfl, rfl⟩
  | response => exact absurd rfl (hi _ _)

/-- Settles O29: an accepted operation by its row; a busy block changes nothing. -/
theorem hostOperationsLeaveTheRest : Obligations.HostOperationsLeaveTheRest := by
  intro i s t hi h
  obtain ⟨hst, hacc⟩ | ⟨-, -, rfl⟩ := exec_host_cases hi h
  · refine ⟨hacc.keeps_rest, fun k => by rw [hacc.out], hacc.keeps_command, hacc.keeps_operands, fun hresp => ?_⟩
    obtain hne | hs := hresp
    · exact hacc.status.resolve_left hne
    · cases hst.symm.trans hs
  · simp

/-! ### The step that accepts (R20, R94) -/

theorem fetchRequest_of_decode {s : State} {r : Request} {rest : List Request} {i : Instr} {extra : List Byte}
    (hreq : s.requests = r :: rest) (hdec : decodeHost (requestBytes s.draws r) = .ok i extra) :
    fetchRequest s = .run i (takeRequest s r rest) := by
  simp only [fetchRequest, hreq, hdec, takeRequest]

/-- Settles O31: the block's own move in IDLE fetches the request. -/
theorem stepRunsTheHostRequest : Obligations.StepRunsTheHostRequest := by
  intro s r rest i extra hst hsch hreq hdec
  rw [step_free hsch, blockMove_idle hst, fetchRequest_of_decode hreq hdec]
  rfl

/-! ### Which command a response answers (R71, R74, R102) -/

/-- A response with another command code than the expected one fails check (5) (R74). -/
theorem decodeFull_frameBuild_of_code_ne {sb t ec code ld cap : Byte} {p : List Byte} (h : code ≠ ec) :
    decodeFull (sb :: frameBuild t (code :: p)) ld ec cap = .error .invalidFrame := by
  refine decodeFull_of_not_headChecks cap fun hchecks => h ?_
  have hcode := hchecks.code
  rwa [frameBuild_eq] at hcode

/-- What a whole READ_RESPONSE, from `s` to `t`, makes of a built response that fits: LAST_CMD decides (R102). -/
structure ResponseValidated (s t : State) (code : Byte) (payload : List Byte) : Prop where
  st : t.st = .idle
  lastCmd : t.lastCmd = s.lastCmd
  accepted : code = s.lastCmd + 1 → t.responses = BitVec.ofNat 16 payload.length :: s.responses ∧
    ∀ j < payload.length, outRead t.out j = some (byteAt payload j)
  rejected : code ≠ s.lastCmd + 1 → t.responses = BitVec.ofInt 16 (-3) :: s.responses ∧ t.out = s.out

/-- The check of a built response that fits, where the data poll has read it. -/
theorem ResponseRead.validated {s u : State} {sb code cap : Byte} {payload : List Byte}
    (hu : ResponseRead s u cap (payload.length + 2)) (hpayload : payload.length ≤ 253)
    (hcap : payload.length ≤ cap.toNat) :
    ResponseValidated s (takeResponse (checkData u (sb :: frameBuild tfiD2H (code :: payload)))) code payload := by
  have hcode : expectedCode u.lastCmd = s.lastCmd + 1 := by rw [expectedCode_eq, hu.lastCmd]
  refine ⟨rfl, by simp [checkData, hu.lastCmd], fun heq => ?_, fun hne => ?_⟩
  · have hdec := (decodeFull_frameBuild sb code cap hpayload).trans (if_pos hcap)
    rw [checkData, hcode, ← heq, hu.lenD, hu.cap, hdec]
    exact ⟨by simp [settleDecode, hu.responses], fun j hj => outRead_outStore_of_not_raced hu.outRaced hj⟩
  · rw [checkData, hcode, decodeFull_frameBuild_of_code_ne hne]
    exact ⟨by rw [← hu.responses]; rfl, hu.out⟩

/-- `readResponse_run` for a built response that fits CAP, with the check at its end. -/
theorem readResponse_validates {s : State} {cap : Byte} {tmo : Half} {rest : List Request} {sb code : Byte}
    {payload : List Byte} {c : Answer} {more : List Answer} (hst : s.st = .idle) (hsch : s.schedule = [])
    (hvalid : s.lastCmdValid = true) (hpayload : payload.length ≤ 253) (hcap : payload.length ≤ cap.toNat)
    (hsb : statusReady s.params.readyMask sb = true) (hreq : s.requests = requestOf (.readResponse cap tmo) :: rest)
    (hans : s.answers = ⟨true, sb :: (frameBuild tfiD2H (code :: payload)).take 6⟩ :: c ::
      ⟨true, sb :: frameBuild tfiD2H (code :: payload)⟩ :: more) :
    ∃ t, stepN 5 s = some t ∧ ResponseValidated s t code payload := by
  obtain ⟨u, hrun, hu⟩ :=
    readResponse_run hst hsch hvalid (by rw [List.length_cons]; omega) hsb hreq hans
  exact ⟨_, hrun, hu.validated hpayload hcap⟩

/-- Settles O53: each WRITE_COMMAND is four steps and leaves its own code in LAST_CMD, which decides for the READ_RESPONSE of
five steps behind the last one. -/
theorem responseAnswersTheLatestCommand : Obligations.ResponseAnswersTheLatestCommand := by
  intro s headerX bodyX headerY bodyY payload code cap tmo sb a b c hst hsch hheaderX hsizeX hheaderY hsizeY hpayload
    hcap hsb f
  refine ⟨fun hreq hans => ?_, fun hreq hans => ?_⟩
  · obtain ⟨x, hrunX, hx⟩ := writeCommand_run hst hsch hheaderX hsizeX hsb hreq hans
    obtain ⟨t, hrun, ht⟩ := readResponse_validates (rest := []) (more := []) hx.st hx.schedule hx.lastCmdValid hpayload
      hcap (by rwa [hx.params]) (by rw [hx.requests, hreq]; rfl) (by rw [hx.answers, hans]; rfl)
    obtain ⟨htst, htcmd, haccepted, hrejected⟩ := ht
    rw [hx.lastCmd, hx.responses] at haccepted hrejected
    rw [hx.out] at hrejected
    exact ⟨t, (stepN_trans hrunX).trans hrun, htst, htcmd.trans hx.lastCmd, haccepted, hrejected⟩
  · obtain ⟨x, hrunX, hx⟩ := writeCommand_run hst hsch hheaderX hsizeX hsb hreq hans
    obtain ⟨y, hrunY, hy⟩ := writeCommand_run hx.st hx.schedule hheaderY hsizeY (by rwa [hx.params])
      (by rw [hx.requests, hreq]; rfl) (by rw [hx.answers, hans]; rfl)
    obtain ⟨t, hrun, ht⟩ := readResponse_validates (rest := []) (more := []) hy.st hy.schedule hy.lastCmdValid hpayload
      hcap (by rwa [hy.params, hx.params]) (by rw [hy.requests, hx.requests, hreq]; rfl)
      (by rw [hy.answers, hx.answers, hans]; rfl)
    obtain ⟨htst, htcmd, haccepted, hrejected⟩ := ht
    rw [hy.lastCmd, hy.responses, hx.responses] at haccepted hrejected
    rw [hy.out, hx.out] at hrejected
    exact ⟨t, (stepN_trans hrunX).trans ((stepN_trans hrunY).trans hrun), htst, htcmd.trans hy.lastCmd, haccepted,
      hrejected⟩

end Sys2Proof.Machine
end

section
/-! PROOFS. The model faults: outside the unused states the one step without a next state is the acceptance of a
READ_RESPONSE with no command since reset (R21, R101, R110). -/

namespace Sys2Proof.Machine

open Sys2Proof

/-- IDLE meets a READ_RESPONSE next, with no command since reset (R101). -/
def CommandlessRead (s : State) : Prop :=
  s.st = .idle ∧ s.lastCmdValid = false ∧ ∃ r rest cap tmo extra, s.requests = r :: rest ∧
    decodeHost (requestBytes s.draws r) = .ok (.readResponse cap tmo) extra

/-- An IDLE block accepts every host operation but a READ_RESPONSE without a command (R94, R101). -/
theorem accepts_or_commandless (s : State) {i : Instr} (hi : i.port = .host) :
    (∃ t, Accepts s i t) ∨ (s.lastCmdValid = false ∧ ∃ cap tmo, i = .readResponse cap tmo) := by
  cases i with
  | beginOp => exact .inl ⟨_, .beginOp⟩
  | wakeup => exact .inl ⟨_, .wakeup⟩
  | writeCommand header body =>
    by_cases hsize : header.length = 0 ∨ header.length + body.length > 254
    · exact .inl ⟨_, .refusedSize hsize⟩
    · exact .inl ⟨_, .command hsize⟩
  | readResponse cap tmo =>
    cases hvalid : s.lastCmdValid with
    | true => exact .inl ⟨_, .response hvalid⟩
    | false => exact .inr ⟨rfl, cap, tmo, rfl⟩
  | ackFrame | nackFrame | dataH2D _ _ _ | dataD2H _ _ _ => cases hi

theorem idle_moves_or_commandless {s : State} (hst : s.st = .idle) : (∃ t, BlockStep s t) ∨ CommandlessRead s := by
  cases hreq : s.requests with
  | nil => exact .inl ⟨s, .noRequest hst hreq⟩
  | cons r rest =>
    cases hdec : decodeHost (requestBytes s.draws r) with
    | error e => exact .inl ⟨_, .refuse hst hreq hdec⟩
    | ok i extra =>
      obtain ⟨t, hacc⟩ | ⟨hvalid, cap, tmo, rfl⟩ := accepts_or_commandless (takeRequest s r rest) (decodeHost_port hdec)
      · exact .inl ⟨t, .accept hst hreq hdec hacc⟩
      · exact .inr ⟨hst, hvalid, r, rest, cap, tmo, extra, hreq, hdec⟩

/-- In a named state the block's own move has a next state, unless it meets a READ_RESPONSE without a command (R89, R101). -/
theorem block_moves_or_commandless {s : State} (hn : isNamed s.st = true) :
    (∃ t, BlockStep s t) ∨ CommandlessRead s := by
  cases hst : s.st with
  | idle => exact idle_moves_or_commandless hst
  | wcSend => exact .inl ⟨_, .send hst⟩
  | rrNack => exact .inl ⟨_, .redeliver hst⟩
  | respond => exact .inl ⟨_, .respond hst⟩
  | wcAckPoll | rrLenPoll | rrDataPoll => exact .inl ⟨_, block_iff.1 (block_poll (by rw [hst]; rfl))⟩
  | wcAckDelay | rrLenDelay | rrDataDelay => exact .inl ⟨_, .delay (by rw [hst]; rfl)⟩
  | unused k =>
    rw [hst] at hn
    cases hn

theorem block_commandless {s : State} (h : CommandlessRead s) : runFetched (blockMove s) = .fault .noCommand := by
  obtain ⟨hst, hvalid, r, rest, cap, tmo, extra, hreq, hdec⟩ := h
  rw [blockMove_idle hst, fetchRequest_of_decode hreq hdec]
  exact readResponseNeedsACommand (takeRequest s r rest) cap tmo hst hvalid

theorem step_commandless {s : State} (hmoves : blockMoves s = true) (h : CommandlessRead s) :
    step s = .fault .noCommand :=
  (step_of_blockMoves hmoves).trans (block_commandless (s := { s with schedule := s.schedule.tail }) h)

/-- A move of any other agent has a next state (R20, R118, R131). -/
theorem environment_moves {s : State} (hn : isNamed s.st = true) (hmoves : blockMoves s = false) :
    ∃ t, step s = .next t := by
  unfold blockMoves at hmoves
  cases hsch : s.schedule with
  | nil => simp [hsch] at hmoves
  | cons move rest =>
    cases move with
    | block => simp [hsch] at hmoves
    | wait => exact ⟨_, step_wait hn hsch⟩
    | never => exact ⟨_, step_never hn hsch⟩
    | reset => exact ⟨_, step_reset hn hsch⟩
    | hostWritesOut i v => exact ⟨_, step_hostWrite hn hsch⟩

theorem step_moves_or_commandless {s : State} (hn : isNamed s.st = true) :
    (∃ t, step s = .next t) ∨ (blockMoves s = true ∧ CommandlessRead s) := by
  cases hmoves : blockMoves s with
  | false => exact .inl (environment_moves hn hmoves)
  | true =>
    obtain ⟨t, hb⟩ | hread := block_moves_or_commandless (s := { s with schedule := s.schedule.tail }) hn
    · exact .inl ⟨t, step_iff.2 (.block hmoves hb)⟩
    · exact .inr ⟨rfl, hread⟩

/-- Settles O41: a step starts in an unused state, has a next state or meets a READ_RESPONSE without a command. -/
theorem faultsAreTheTwoModelFaults : Obligations.FaultsAreTheTwoModelFaults := by
  intro s
  change _ ∧ (_ ↔ blockMoves s = true ∧ CommandlessRead s) ∧ _
  have hfault : blockMoves s = true ∧ CommandlessRead s → step s = .fault .noCommand := fun h =>
    step_commandless h.1 h.2
  cases hn : isNamed s.st with
  | false =>
    have hstep := step_unused hn
    exact ⟨by simp [hstep], ⟨fun h => (nomatch hstep.symm.trans h), hfault⟩, by simp [hstep]⟩
  | true =>
    obtain ⟨t, hstep⟩ | hread := step_moves_or_commandless hn
    · exact ⟨by simp [hstep], ⟨fun h => (nomatch hstep.symm.trans h), hfault⟩, by simp [hstep]⟩
    · have hstep := hfault hread
      exact ⟨by simp [hstep], ⟨fun _ => hread, hfault⟩, by simp [hstep]⟩

end Sys2Proof.Machine
end

section
/-! PROOFS. The reset event: what it leaves of TXLEN and of OUT (R28, R118, U6). -/

namespace Sys2Proof.Machine

open Sys2Proof

/-- TXLEN is unspecified after a reset event, but within its range (R28). -/
theorem takeReset_txLen_le (s : State) : (takeReset s).txLen.toNat ≤ 262 := by
  rw [takeReset, resetRegisters_txLen, BitVec.toNat_ofNat]
  omega

theorem takeReset_out_of_not_running {s : State} (h : readRunning s = false) : (takeReset s).out = s.out :=
  (takeReset_out s).trans (if_neg (by rw [h]; nofun))

theorem outRead_takeReset_of_running {s : State} (h : readRunning s = true) {k : Nat} (hk : k < 255) :
    outRead (takeReset s).out k = some (Config.freeByte (s.draws + k)) := by
  rw [takeReset_out, if_pos h]
  exact outRead_loseOut s hk

/-- Settles O42: the step is the reset event itself; what it does to OUT turns on whether a READ_RESPONSE runs. -/
theorem resetEventAbandonsTheOperation : Obligations.ResetEventAbandonsTheOperation := by
  intro s rest hn hsch
  refine ⟨takeReset { s with schedule := rest }, step_reset hn hsch, takeReset_st _, takeReset_lastCmdValid _,
    takeReset_responses _, takeReset_requests _, takeReset_traffic _, takeReset_params _, takeReset_schedule _,
    takeReset_txLen_le _, ?notRunning, ?running⟩
  case notRunning => exact fun h => takeReset_out_of_not_running (s := { s with schedule := rest }) h
  case running => exact fun h k hk => outRead_takeReset_of_running (s := { s with schedule := rest }) h hk

end Sys2Proof.Machine
end
